-- ==== Sys2Proof/Word.lean ====
section
/-! DEFINITION. The word types of the block: unsigned integers of a stated width (00_scope.md R11), the state
arrays made of them (10_state.md R15) and the shape of an IEEE 754 binary format (44_float_conversion.md R93). -/

namespace Sys2Proof

/-- A word of a 32-bit engine (00_scope.md R9, `W[e] = 32`). -/
abbrev Word32 := BitVec 32

/-- A word of a 64-bit engine, and OPERAND and RESULT (00_scope.md R9, 30_encoding.md R44). -/
abbrev Word64 := BitVec 64

/-- A state array: `n` words of `w` bits, word `i` being `S[e][i]` (00_scope.md R13). -/
abbrev Words (w n : Nat) := Vector (BitVec w) n

/-- An IEEE 754 binary format as R93 lays it out: sign in the top bit, then the exponent field, then the fraction. -/
structure FloatFormat where
  /-- Width of the exponent field. -/
  expBits : Nat
  /-- Width of the fraction field. -/
  fracBits : Nat
  deriving DecidableEq, Repr

end Sys2Proof
end

