-- ==== Sys2Proof/Machine/Constants.lean ====
section
/-! DEFINITION. The values the spec fixes, each under one name (00_scope.md R9, R10). The literals are the source document's,
unaudited (log 12: unsafe if one is wrong). -/

namespace Sys2Proof.Machine

/-- `MULT_32` (40_seed_and_init.md R60). -/
def mult32 : Word32 := 1812433253
/-- `SHIFT_32` (40_seed_and_init.md R60). -/
def shift32 : Nat := 30
/-- `MULT_64` (40_seed_and_init.md R61). -/
def mult64 : Word64 := 18124332531812433253
/-- `SHIFT_64` (40_seed_and_init.md R61). -/
def shift64 : Nat := 60

/-- `WELL_SRAND_INDEX` (00_scope.md R10; the spec's decision D10, log 3: unsafe if the source keeps another index). -/
def wellSrandIndex : BitVec 4 := 0

/-- Xoshiro128**: the first multiplier, on word 0 (41_xoshiro32.md R82). -/
def x128ssMulIn : Word32 := 5
/-- Xoshiro128**: the rotation between the products (41_xoshiro32.md R82). -/
def x128ssRotOut : Nat := 7
/-- Xoshiro128**: the second multiplier (41_xoshiro32.md R82). -/
def x128ssMulOut : Word32 := 9
/-- Xoshiro128** and Xoshiro128+: the shift of the update (41_xoshiro32.md R81). -/
def xoshiro128Shift : Nat := 9
/-- Xoshiro128** and Xoshiro128+: the rotation of the update (41_xoshiro32.md R81). -/
def xoshiro128Rot : Nat := 11

/-- Xoroshiro128+: the rotation of the old word 0 (42_xoroshiro64.md R84). -/
def xr128pRotA : Nat := 24
/-- Xoroshiro128+: the shift (42_xoroshiro64.md R84). -/
def xr128pShift : Nat := 16
/-- Xoroshiro128+: the rotation that gives word 1 (42_xoroshiro64.md R84). -/
def xr128pRotB : Nat := 37
/-- Xoroshiro256+: the shift (42_xoroshiro64.md R85). -/
def xr256pShift : Nat := 17
/-- Xoroshiro256+: the rotation (42_xoroshiro64.md R85). -/
def xr256pRot : Nat := 45
/-- Xoroshiro512+: the shift (42_xoroshiro64.md R86). -/
def xr512pShift : Nat := 11
/-- Xoroshiro512+: the rotation (42_xoroshiro64.md R86). -/
def xr512pRot : Nat := 21

/-- RandWELL: what is added to the index at each step (43_well.md R88). -/
def wellIndexStep : BitVec 4 := 15
/-- RandWELL: the mask on the index (43_well.md R88). -/
def wellIndexMask : BitVec 4 := 15

/-- RandWELL: the offset of the second word read (43_well.md R88). -/
def wellOffsetSecond : BitVec 4 := 13
/-- RandWELL: the offset of the third word read (43_well.md R88). -/
def wellOffsetThird : BitVec 4 := 9

/-- IEEE 754 binary32: 8 exponent bits, `F32_MANT_BITS = 23` fraction bits (00_scope.md R9, 44_float_conversion.md R93). -/
def binary32 : FloatFormat := { expBits := 8, fracBits := 23 }
/-- IEEE 754 binary64: 11 exponent bits, `F64_MANT_BITS = 52` fraction bits (00_scope.md R9, 44_float_conversion.md R93). -/
def binary64 : FloatFormat := { expBits := 11, fracBits := 52 }
/-- The binary32 pattern with sign 0 and exponent field 127, to which the mantissa is or-ed (44_float_conversion.md R93). -/
def f32OneBits : Word32 := 0x3F800000
/-- The binary64 pattern with sign 0 and exponent field 1023 (44_float_conversion.md R93). -/
def f64OneBits : Word64 := 0x3FF0000000000000
/-- `F32_0_BIAS_BITS`, the binary32 nearest to 0.999999881 (44_float_conversion.md R94; the spec's decision D13, log 10: unsafe
if the source subtracts in double precision). -/
def f32_0BiasBits : Word32 := 0x3F7FFFFE
/-- `F32_1_BIAS`, 1.0 (00_scope.md R9, 44_float_conversion.md R95). -/
def f32_1BiasBits : Word32 := 0x3F800000
/-- `F64_BIAS`, 1.0 (00_scope.md R9, 44_float_conversion.md R96). -/
def f64BiasBits : Word64 := 0x3FF0000000000000

end Sys2Proof.Machine
end

