-- ==== Sys2Proof/Machine/Float.lean ====
section
/-! DEFINITION. The integer-to-float converter (44_float_conversion.md R93 to R98, R110): build the pattern, subtract as IEEE 754
does, give the pattern of the difference. A finite number is held exactly, as a whole number times a power of two
of units, the unit being the format's smallest magnitude (2^-149 for binary32, 2^-1074 for binary64). -/

namespace Sys2Proof.Machine

/-- The pattern's sign bit (R93). -/
def floatSign (f : FloatFormat) (bits : Nat) : Bool := bits.testBit (f.expBits + f.fracBits)

/-- The pattern's exponent field (R93). -/
def floatExp (f : FloatFormat) (bits : Nat) : Nat := bits / 2 ^ f.fracBits % 2 ^ f.expBits

/-- The pattern's fraction field (R93). -/
def floatFrac (f : FloatFormat) (bits : Nat) : Nat := bits % 2 ^ f.fracBits

/-- The significand of a finite pattern as a whole number: the fraction, under the leading 1 when the exponent field is not 0.
The converter meets no pattern with an exponent field of all ones (R110). PRESUMED (IEEE 754), log 11. -/
def floatMant (f : FloatFormat) (bits : Nat) : Nat :=
  if floatExp f bits = 0 then floatFrac f bits else 2 ^ f.fracBits + floatFrac f bits

/-- The power of two, in units, of the significand's last place. PRESUMED (IEEE 754), log 11. -/
def floatScale (f : FloatFormat) (bits : Nat) : Nat := floatExp f bits - 1

/-- A finite pattern's value as a multiple of `2^e` units, for `e` at most its scale. -/
def floatAt (f : FloatFormat) (e bits : Nat) : Int :=
  let mag := floatMant f bits * 2 ^ (floatScale f bits - e)
  if floatSign f bits then -(mag : Int) else mag

/-- `n / 2^k` rounded to the nearest whole number, a tie to the even one (the rounding R110 fixes). -/
def roundHalfEven (n k : Nat) : Nat :=
  let q := n / 2 ^ k
  let r := n % 2 ^ k
  if 2 * r > 2 ^ k ∨ (2 * r = 2 ^ k ∧ q % 2 = 1) then q + 1 else q

/-- The pattern of the magnitude `n * 2^e` units, rounded to the format; past the largest finite pattern it is infinity's.
A carry of the rounding moves into the exponent field by itself. PRESUMED (IEEE 754), log 11. -/
def floatOfMagnitude (f : FloatFormat) (n e : Nat) : Nat :=
  if n = 0 then 0
  else
    let k := n.log2 + e - f.fracBits
    let q := if k ≤ e then n * 2 ^ (e - k) else roundHalfEven n (k - e)
    min (k * 2 ^ f.fracBits + q) ((2 ^ f.expBits - 1) * 2 ^ f.fracBits)

/-- The pattern of `d * 2^e` units; an exact zero is +0.0 (R110). -/
def floatOfScaled (f : FloatFormat) (d : Int) (e : Nat) : Nat :=
  floatOfMagnitude f d.natAbs e + if d < 0 then 2 ^ (f.expBits + f.fracBits) else 0

/-- The IEEE difference of two finite patterns: exact at the smaller scale, then rounded once (R94 to R96, R110). -/
def floatSub (f : FloatFormat) (a b : Nat) : Nat :=
  let e := min (floatScale f a) (floatScale f b)
  floatOfScaled f (floatAt f e a - floatAt f e b) e

/-- `bits_of_f32(f32_of_bits(0x3F800000 | x[22:0]) - f32_of_bits(bias))` (R94, R95). -/
def injectF32 (bias x : Word32) : Word32 :=
  let m := x &&& BitVec.ofNat 32 (2 ^ binary32.fracBits - 1)
  BitVec.ofNat 32 (floatSub binary32 (f32OneBits ||| m).toNat bias.toNat)

/-- `bits_of_f32(toF32_0(x))`, a value in `(0, 1]` (R94). -/
def toF32_0 (x : Word32) : Word32 := injectF32 f32_0BiasBits x

/-- `bits_of_f32(toF32_1(x))`, a value in `[0, 1)` (R95). -/
def toF32_1 (x : Word32) : Word32 := injectF32 f32_1BiasBits x

/-- `bits_of_f64(toF64(x))`, a value in `[0, 1)` (R96). -/
def toF64 (x : Word64) : Word64 :=
  let m := x &&& BitVec.ofNat 64 (2 ^ binary64.fracBits - 1)
  BitVec.ofNat 64 (floatSub binary64 (f64OneBits ||| m).toNat f64BiasBits.toNat)

end Sys2Proof.Machine
end

