-- ==== Sys2Proof/Syntax.lean ====
section
/-! DEFINITION. The commands of the block (30_encoding.md R48, R49), one constructor of Instr per row of the opcode table,
and the words that cross the port (R44 to R47). -/

namespace Sys2Proof

/-- The six engines (30_encoding.md R48). -/
inductive Engine where
  | x128ss
  | x128p
  | xr128p
  | xr256p
  | xr512p
  | well
  deriving DecidableEq, Repr

/-- `W[e]`, the word width of an engine (00_scope.md R9). -/
def Engine.width : Engine → Nat
  | .x128ss => 32
  | .x128p => 32
  | .xr128p => 64
  | .xr256p => 64
  | .xr512p => 64
  | .well => 32

/-- `N[e]`, the length in words of an engine's state array (00_scope.md R9). -/
def Engine.length : Engine → Nat
  | .x128ss => 4
  | .x128p => 4
  | .xr128p => 2
  | .xr256p => 4
  | .xr512p => 8
  | .well => 16

/-- The six operations (30_encoding.md R49). -/
inductive Op where
  | init
  | srand
  | rand
  | frand
  | frand2
  | drand2
  deriving DecidableEq, Repr

/-- One request on the port (30_encoding.md R44). -/
structure Request where
  /-- `CMD`, the command word. -/
  cmd : BitVec 32
  /-- `OPERAND`; read by SRAND only (R46). -/
  operand : Word64
  deriving DecidableEq, Repr

/-- The causes a response can report (60_exceptions.md R123). -/
inductive Status where
  /-- The command was executed. -/
  | ok
  /-- `CMD[31:8] != 0`. -/
  | errReservedBits
  /-- `OP` is 0 or 7 to 15. -/
  | errOpcode
  /-- `ENG` is 6 to 15. -/
  | errEngine
  /-- The engine does not have the operation. -/
  | errUnsupported
  /-- The operand is not a seed of the engine's type. -/
  | errOperand
  deriving DecidableEq, Repr

/-- One response on the port (30_encoding.md R47). -/
structure Response where
  /-- `STATUS`, 3 bits. -/
  status : BitVec 3
  /-- `RESULT`, 64 bits. -/
  result : Word64
  deriving DecidableEq, Repr

/-- The 27 commands (30_encoding.md R49). SRAND carries the whole OPERAND word, since it alone reads it (R46). -/
inductive Instr where
  /-- INIT.X128SS (R71). -/
  | initX128SS
  /-- INIT.X128P (R72). -/
  | initX128P
  /-- INIT.XR128P (R73). -/
  | initXR128P
  /-- INIT.XR256P (R74). -/
  | initXR256P
  /-- INIT.XR512P (R75). -/
  | initXR512P
  /-- INIT.WELL (R76). -/
  | initWell
  /-- SRAND.X128SS (R65). -/
  | srandX128SS (operand : Word64)
  /-- SRAND.X128P (R66). -/
  | srandX128P (operand : Word64)
  /-- SRAND.XR128P (R67). -/
  | srandXR128P (operand : Word64)
  /-- SRAND.XR256P (R68). -/
  | srandXR256P (operand : Word64)
  /-- SRAND.XR512P (R69). -/
  | srandXR512P (operand : Word64)
  /-- SRAND.WELL (R70). -/
  | srandWell (operand : Word64)
  /-- RAND.X128SS (R82). -/
  | randX128SS
  /-- RAND.X128P (R83). -/
  | randX128P
  /-- RAND.XR128P (R84). -/
  | randXR128P
  /-- RAND.XR256P (R85). -/
  | randXR256P
  /-- RAND.XR512P (R86). -/
  | randXR512P
  /-- RAND.WELL (R88). -/
  | randWell
  /-- FRAND.X128SS (R100). -/
  | frandX128SS
  /-- FRAND.X128P (R101). -/
  | frandX128P
  /-- FRAND.WELL (R102). -/
  | frandWell
  /-- FRAND2.X128SS (R103). -/
  | frand2X128SS
  /-- FRAND2.X128P (R104). -/
  | frand2X128P
  /-- FRAND2.WELL (R105). -/
  | frand2Well
  /-- DRAND2.XR128P (R106). -/
  | drand2XR128P
  /-- DRAND2.XR256P (R107). -/
  | drand2XR256P
  /-- DRAND2.XR512P (R108). -/
  | drand2XR512P
  deriving DecidableEq, Repr

/-- The operation of a command (30_encoding.md R49). -/
def Instr.op : Instr → Op
  | .initX128SS => .init
  | .initX128P => .init
  | .initXR128P => .init
  | .initXR256P => .init
  | .initXR512P => .init
  | .initWell => .init
  | .srandX128SS _ => .srand
  | .srandX128P _ => .srand
  | .srandXR128P _ => .srand
  | .srandXR256P _ => .srand
  | .srandXR512P _ => .srand
  | .srandWell _ => .srand
  | .randX128SS => .rand
  | .randX128P => .rand
  | .randXR128P => .rand
  | .randXR256P => .rand
  | .randXR512P => .rand
  | .randWell => .rand
  | .frandX128SS => .frand
  | .frandX128P => .frand
  | .frandWell => .frand
  | .frand2X128SS => .frand2
  | .frand2X128P => .frand2
  | .frand2Well => .frand2
  | .drand2XR128P => .drand2
  | .drand2XR256P => .drand2
  | .drand2XR512P => .drand2

/-- The engine a command names (30_encoding.md R49). -/
def Instr.engine : Instr → Engine
  | .initX128SS => .x128ss
  | .initX128P => .x128p
  | .initXR128P => .xr128p
  | .initXR256P => .xr256p
  | .initXR512P => .xr512p
  | .initWell => .well
  | .srandX128SS _ => .x128ss
  | .srandX128P _ => .x128p
  | .srandXR128P _ => .xr128p
  | .srandXR256P _ => .xr256p
  | .srandXR512P _ => .xr512p
  | .srandWell _ => .well
  | .randX128SS => .x128ss
  | .randX128P => .x128p
  | .randXR128P => .xr128p
  | .randXR256P => .xr256p
  | .randXR512P => .xr512p
  | .randWell => .well
  | .frandX128SS => .x128ss
  | .frandX128P => .x128p
  | .frandWell => .well
  | .frand2X128SS => .x128ss
  | .frand2X128P => .x128p
  | .frand2Well => .well
  | .drand2XR128P => .xr128p
  | .drand2XR256P => .xr256p
  | .drand2XR512P => .xr512p

/-- A listing line (30_encoding.md R56, R57): a command, or one of the two renamings `NEXT.e` and `SEED.e v`. -/
inductive AsmLine where
  | command (i : Instr)
  | nextOf (e : Engine)
  | seedOf (e : Engine) (seed : Word64)
  deriving DecidableEq, Repr

end Sys2Proof
end

