-- ==== Sys2Proof/Decode.lean ====
section
/-! DEFINITION. The decoder (30_encoding.md R45, R48 to R53), total on every request and refusing by status, and after it the
encoder, written from R49's table of command words. -/

namespace Sys2Proof

/-- The decoder's verdict on a request (30_encoding.md R50): one command, or one refusal. -/
inductive Verdict where
  | run (i : Instr)
  | refuse (st : Status)
  deriving DecidableEq, Repr

/-- `OP = CMD[3:0]` (30_encoding.md R45). -/
def opField (cmd : BitVec 32) : BitVec 4 := cmd.extractLsb' 0 4

/-- `ENG = CMD[7:4]` (30_encoding.md R45). -/
def engField (cmd : BitVec 32) : BitVec 4 := cmd.extractLsb' 4 4

/-- `RSV = CMD[31:8]` (30_encoding.md R45). -/
def rsvField (cmd : BitVec 32) : BitVec 24 := cmd.extractLsb' 8 24

/-- `OPERAND[63:32]` (30_encoding.md R46). -/
def operandHigh (operand : Word64) : Word32 := operand.extractLsb' 32 32

/-- The operation an OP value names; 0 and 7 to 15 are reserved (30_encoding.md R49, R52). -/
def opOfField (f : BitVec 4) : Option Op :=
  match f.toNat with
  | 1 => some .init
  | 2 => some .srand
  | 3 => some .rand
  | 4 => some .frand
  | 5 => some .frand2
  | 6 => some .drand2
  | _ => none

/-- The engine an ENG value names; 6 to 15 are reserved (30_encoding.md R48, R52). -/
def engineOfField (f : BitVec 4) : Option Engine :=
  match f.toNat with
  | 0 => some .x128ss
  | 1 => some .x128p
  | 2 => some .xr128p
  | 3 => some .xr256p
  | 4 => some .xr512p
  | 5 => some .well
  | _ => none

/-- The command for an operation on an engine, none for the nine pairs that do not exist (30_encoding.md R49, R53). -/
def instrOf (op : Op) (e : Engine) (operand : Word64) : Option Instr :=
  match op, e with
  | .init, .x128ss => some .initX128SS
  | .init, .x128p => some .initX128P
  | .init, .xr128p => some .initXR128P
  | .init, .xr256p => some .initXR256P
  | .init, .xr512p => some .initXR512P
  | .init, .well => some .initWell
  | .srand, .x128ss => some (.srandX128SS operand)
  | .srand, .x128p => some (.srandX128P operand)
  | .srand, .xr128p => some (.srandXR128P operand)
  | .srand, .xr256p => some (.srandXR256P operand)
  | .srand, .xr512p => some (.srandXR512P operand)
  | .srand, .well => some (.srandWell operand)
  | .rand, .x128ss => some .randX128SS
  | .rand, .x128p => some .randX128P
  | .rand, .xr128p => some .randXR128P
  | .rand, .xr256p => some .randXR256P
  | .rand, .xr512p => some .randXR512P
  | .rand, .well => some .randWell
  | .frand, .x128ss => some .frandX128SS
  | .frand, .x128p => some .frandX128P
  | .frand, .xr128p => none
  | .frand, .xr256p => none
  | .frand, .xr512p => none
  | .frand, .well => some .frandWell
  | .frand2, .x128ss => some .frand2X128SS
  | .frand2, .x128p => some .frand2X128P
  | .frand2, .xr128p => none
  | .frand2, .xr256p => none
  | .frand2, .xr512p => none
  | .frand2, .well => some .frand2Well
  | .drand2, .x128ss => none
  | .drand2, .x128p => none
  | .drand2, .xr128p => some .drand2XR128P
  | .drand2, .xr256p => some .drand2XR256P
  | .drand2, .xr512p => some .drand2XR512P
  | .drand2, .well => none

/-- Step (5) of R50: a SRAND to a 32-bit engine whose OPERAND has a non-zero upper half. -/
def operandIllegal (op : Op) (e : Engine) (operand : Word64) : Bool :=
  op == .srand && e.width == 32 && operandHigh operand != 0

/-- The decoder, its six checks in the order of 30_encoding.md R50 (the priority of 60_exceptions.md R127). -/
def decode (r : Request) : Verdict :=
  if rsvField r.cmd ≠ 0 then .refuse .errReservedBits
  else match opOfField (opField r.cmd) with
    | none => .refuse .errOpcode
    | some op => match engineOfField (engField r.cmd) with
      | none => .refuse .errEngine
      | some e => match instrOf op e r.operand with
        | none => .refuse .errUnsupported
        | some i => if operandIllegal op e r.operand then .refuse .errOperand else .run i

/-- The request of a command word laid out as one number: CMD in bits 31 to 0, OPERAND in bits 95 to 32, the bits from
`nbits` up zero. The words have no byte order (20_memory.md R35). DESIGN CHOICE, log 15: safe. -/
def requestOfTableWord (nbits w : Nat) : Request :=
  let v := w % 2 ^ nbits
  { cmd := BitVec.ofNat 32 v, operand := BitVec.ofNat 64 (v >>> 32) }

/-- The instruction the decoder reads from an instruction whose bits are `w`, none where it refuses. -/
def decodeTableWord (nbits w : Nat) : Option Instr :=
  match decode (requestOfTableWord nbits w) with
  | .run i => some i
  | .refuse _ => none

/-- The request of a command: CMD from the table of 30_encoding.md R49, OPERAND the seed word of SRAND and 0 for a command
that takes no operand (R56). -/
def encode : Instr → Request
  | .initX128SS => { cmd := 0x00000001, operand := 0 }
  | .initX128P => { cmd := 0x00000011, operand := 0 }
  | .initXR128P => { cmd := 0x00000021, operand := 0 }
  | .initXR256P => { cmd := 0x00000031, operand := 0 }
  | .initXR512P => { cmd := 0x00000041, operand := 0 }
  | .initWell => { cmd := 0x00000051, operand := 0 }
  | .srandX128SS operand => { cmd := 0x00000002, operand := operand }
  | .srandX128P operand => { cmd := 0x00000012, operand := operand }
  | .srandXR128P operand => { cmd := 0x00000022, operand := operand }
  | .srandXR256P operand => { cmd := 0x00000032, operand := operand }
  | .srandXR512P operand => { cmd := 0x00000042, operand := operand }
  | .srandWell operand => { cmd := 0x00000052, operand := operand }
  | .randX128SS => { cmd := 0x00000003, operand := 0 }
  | .randX128P => { cmd := 0x00000013, operand := 0 }
  | .randXR128P => { cmd := 0x00000023, operand := 0 }
  | .randXR256P => { cmd := 0x00000033, operand := 0 }
  | .randXR512P => { cmd := 0x00000043, operand := 0 }
  | .randWell => { cmd := 0x00000053, operand := 0 }
  | .frandX128SS => { cmd := 0x00000004, operand := 0 }
  | .frandX128P => { cmd := 0x00000014, operand := 0 }
  | .frandWell => { cmd := 0x00000054, operand := 0 }
  | .frand2X128SS => { cmd := 0x00000005, operand := 0 }
  | .frand2X128P => { cmd := 0x00000015, operand := 0 }
  | .frand2Well => { cmd := 0x00000055, operand := 0 }
  | .drand2XR128P => { cmd := 0x00000026, operand := 0 }
  | .drand2XR256P => { cmd := 0x00000036, operand := 0 }
  | .drand2XR512P => { cmd := 0x00000046, operand := 0 }

/-- The OP number of an operation (30_encoding.md R49). -/
def opNumber : Op → Nat
  | .init => 1
  | .srand => 2
  | .rand => 3
  | .frand => 4
  | .frand2 => 5
  | .drand2 => 6

/-- The ENG number of an engine (30_encoding.md R48). -/
def engineNumber : Engine → Nat
  | .x128ss => 0
  | .x128p => 1
  | .xr128p => 2
  | .xr256p => 3
  | .xr512p => 4
  | .well => 5

/-- `RAND.e`, the command that `NEXT.e` renames (30_encoding.md R57). -/
def randOf : Engine → Instr
  | .x128ss => .randX128SS
  | .x128p => .randX128P
  | .xr128p => .randXR128P
  | .xr256p => .randXR256P
  | .xr512p => .randXR512P
  | .well => .randWell

/-- `SRAND.e v`, the command that `SEED.e v` renames (30_encoding.md R57). -/
def srandOf (v : Word64) : Engine → Instr
  | .x128ss => .srandX128SS v
  | .x128p => .srandX128P v
  | .xr128p => .srandXR128P v
  | .xr256p => .srandXR256P v
  | .xr512p => .srandXR512P v
  | .well => .srandWell v

/-- The request a listing line assembles to (30_encoding.md R56, R57). -/
def assemble : AsmLine → Request
  | .command i => encode i
  | .nextOf e => encode (randOf e)
  | .seedOf e v => encode (srandOf v e)

end Sys2Proof
end

