-- ==== Sys2Proof/Machine/Operands.lean ====
section
/-! DEFINITION. The operand forms of a command (30_encoding.md R46) and the widening of a 32-bit value into RESULT (R58). -/

namespace Sys2Proof.Machine

/-- `OPERAND[31:0]`, the seed of a 32-bit engine (30_encoding.md R46). -/
def seed32 (operand : Word64) : Word32 := operand.extractLsb' 0 32

/-- `OPERAND[63:0]`, the seed of a 64-bit engine (30_encoding.md R46). -/
def seed64 (operand : Word64) : Word64 := operand

/-- `zext_64(v)` of a 32-bit value (00_scope.md R11, 30_encoding.md R58). -/
def zext64 (v : Word32) : Word64 := v.setWidth 64

end Sys2Proof.Machine
end

