-- ==== Sys2Proof/Machine/Flags.lean ====
section
/-! DEFINITION. The block has no flags or condition codes (10_state.md R28). The one condition a command reports is STATUS, an
output of its response and not state; its 3-bit codes stand here (60_exceptions.md R123). -/

namespace Sys2Proof.Machine

/-- The STATUS code of a cause; codes 6 and 7 are never produced (60_exceptions.md R123). -/
def statusCode : Status → BitVec 3
  | .ok => 0
  | .errReservedBits => 1
  | .errOpcode => 2
  | .errEngine => 3
  | .errUnsupported => 4
  | .errOperand => 5

end Sys2Proof.Machine
end

