-- ==== Sys2Proof/Config.lean ====
section
/-! DEFINITION. The OPEN parameters of the block (00_scope.md R10): constants with no body, so that a claim which
mentions one holds for every value of it. The values the spec does fix stand in Machine/Constants.lean. -/

namespace Sys2Proof.Config

/-- `DEFAULT_STATE[X128SS]` (10_state.md R31): fixed for the life of the hardware, value not given. DESIGN CHOICE,
log 1: opaque, safe. -/
opaque defaultX128SS : Words 32 4

/-- `DEFAULT_STATE[X128P]` (10_state.md R31); nothing says that it equals `defaultX128SS` (40_seed_and_init.md R72).
DESIGN CHOICE, log 1: opaque, safe. -/
opaque defaultX128P : Words 32 4

/-- `DEFAULT_STATE[XR128P]` (10_state.md R31). DESIGN CHOICE, log 1: opaque, safe. -/
opaque defaultXR128P : Words 64 2

/-- `DEFAULT_STATE[XR256P]` (10_state.md R31). DESIGN CHOICE, log 1: opaque, safe. -/
opaque defaultXR256P : Words 64 4

/-- `DEFAULT_STATE[XR512P]` (10_state.md R31). DESIGN CHOICE, log 1: opaque, safe. -/
opaque defaultXR512P : Words 64 8

/-- `DEFAULT_STATE[WELL]` (10_state.md R31). DESIGN CHOICE, log 1: opaque, safe. -/
opaque defaultWell : Words 32 16

/-- `DEFAULT_WELL_INDEX`, 0 to 15 (10_state.md R31). DESIGN CHOICE, log 1: opaque, safe. -/
opaque defaultWellIndex : BitVec 4

/-- `WELL_MIX` (43_well.md R89): from the sixteen words and the index before the step, the sixteen words after it and
the raw output. A total function of nothing else; the spec constrains it no further. DESIGN CHOICE, log 2: opaque, safe. -/
opaque wellMix : Words 32 16 → BitVec 4 → Words 32 16 × Word32

end Sys2Proof.Config
end

