-- ==== Sys2Proof/Machine/State.lean ====
section
/-! DEFINITION. The state of the block (10_state.md R15 to R22), the port's two lists, the reasons a step could stop, and the state
after reset (10_state.md R31). -/

namespace Sys2Proof.Machine

/-- What the host can do to the block (70_reset_and_hazards.md R143): present a request, or cause a reset event. -/
inductive HostAction where
  | request (r : Request)
  | reset
  deriving DecidableEq, Repr

/-- The architectural state, 1668 bits (10_state.md R15), and the port as the model holds it. -/
structure State where
  /-- `S[X128SS][0..3]` (R16). -/
  x128ss : Words 32 4
  /-- `S[X128P][0..3]` (R17). -/
  x128p : Words 32 4
  /-- `S[XR128P][0..1]` (R18). -/
  xr128p : Words 64 2
  /-- `S[XR256P][0..3]` (R19). -/
  xr256p : Words 64 4
  /-- `S[XR512P][0..7]` (R20). -/
  xr512p : Words 64 8
  /-- `S[WELL][0..15]` (R21). -/
  well : Words 32 16
  /-- `IDX`, the RandWELL index (R22). -/
  idx : BitVec 4
  /-- The MODEL's own: the host's actions not yet served, oldest first; the head is the one on the port (20_memory.md R39,
  70_reset_and_hazards.md R143). DESIGN CHOICE, log 4: safe. -/
  pending : List HostAction
  /-- The MODEL's own: the responses delivered so far, oldest first (70_reset_and_hazards.md R143); no command reads it.
  DESIGN CHOICE, log 5: safe. -/
  responses : List Response
  deriving DecidableEq, Repr

/-- A step never faults: the block has no fault state (60_exceptions.md R122), so there is no reason to list. Safe. -/
inductive Fault where
  deriving DecidableEq, Repr

/-- Reasons a step has no meaning. A request the block refuses is no such reason: it is answered (60_exceptions.md R122), in a
next state (DEDUCED, log 6: safe). -/
inductive Refusal where
  /-- Raised by nobody: every command of the table has its meaning. It stands for an arm of `exec` without one. Safe. -/
  | notModelled (mnemonic : String)
  deriving DecidableEq, Repr

/-- The block right after reset: every engine in its default state, the index at its default (10_state.md R31,
70_reset_and_hazards.md R135), nothing on the port and no response given (DESIGN CHOICE, log 4 and log 5: safe). -/
def State.reset : State :=
  { x128ss := Config.defaultX128SS
    x128p := Config.defaultX128P
    xr128p := Config.defaultXR128P
    xr256p := Config.defaultXR256P
    xr512p := Config.defaultXR512P
    well := Config.defaultWell
    idx := Config.defaultWellIndex
    pending := []
    responses := [] }

end Sys2Proof.Machine
end

