-- ==== Sys2Proof/Machine/Ops.lean ====
section
/-! DEFINITION. The operations the meanings share: the rotation, the one writer of each state array, answering the request on the
port, refusing it, and the reset event. The block takes no exception and returns from none (60_exceptions.md R128, R129): what a
processor's trap entry would be is here the refusal. -/

namespace Sys2Proof.Machine

/-- `rotl_w(x, k)` for `0 < k < w` (00_scope.md R12, 41_xoshiro32.md R79). -/
def rotl {w : Nat} (x : BitVec w) (k : Nat) : BitVec w := (x <<< k) ||| (x >>> (w - k))

/-- `UPDATE4_w(a, b)`, its statements in order (41_xoshiro32.md R81). -/
def update4 {w : Nat} (a b : Nat) (s : Words w 4) : Words w 4 :=
  let t := s[1] <<< a
  let s2 := s[2] ^^^ s[0]
  let s3 := s[3] ^^^ s[1]
  let s1 := s[1] ^^^ s2
  let s0 := s[0] ^^^ s3
  let s2 := s2 ^^^ t
  let s3 := rotl s3 b
  #v[s0, s1, s2, s3]

/-- `S[X128SS][0..3] <- v` (10_state.md R16). -/
def State.setX128ss (v : Words 32 4) (s : State) : State := { s with x128ss := v }

/-- `S[X128P][0..3] <- v` (10_state.md R17). -/
def State.setX128p (v : Words 32 4) (s : State) : State := { s with x128p := v }

/-- `S[XR128P][0..1] <- v` (10_state.md R18). -/
def State.setXr128p (v : Words 64 2) (s : State) : State := { s with xr128p := v }

/-- `S[XR256P][0..3] <- v` (10_state.md R19). -/
def State.setXr256p (v : Words 64 4) (s : State) : State := { s with xr256p := v }

/-- `S[XR512P][0..7] <- v` (10_state.md R20). -/
def State.setXr512p (v : Words 64 8) (s : State) : State := { s with xr512p := v }

/-- `S[WELL][0..15] <- v` and `IDX <- k`, written together (10_state.md R21, R22). -/
def State.setWell (v : Words 32 16) (k : BitVec 4) (s : State) : State := { s with well := v, idx := k }

/-- Answer the request at the head of the port: one response leaves, and the request leaves with it (30_encoding.md R44,
20_memory.md R39). DESIGN CHOICE, log 17: the request stays at the head until it is answered; safe. -/
def State.answer (st : Status) (result : Word64) (s : State) : State :=
  { s with
    pending := s.pending.tail
    responses := s.responses ++ [{ status := statusCode st, result := result }] }

/-- A command that was executed: STATUS `OK` and its RESULT (30_encoding.md R47). -/
def complete (result : Word64) (s : State) : Host.Outcome State Fault Refusal := .next (s.answer .ok result)

/-- A request that is refused: its cause in STATUS, RESULT 0, nothing else changed (60_exceptions.md R122, R126). -/
def refuse (st : Status) (s : State) : Host.Outcome State Fault Refusal := .next (s.answer st 0)

/-- The reset event: all six engines and the index take their reset values, no response is given
(70_reset_and_hazards.md R134), and the actions the host has still to make stay (DEDUCED, log 8: safe). -/
def State.resetEvent (s : State) : State :=
  { State.reset with pending := s.pending.tail, responses := s.responses }

end Sys2Proof.Machine
end

