-- ==== Sys2Proof/Machine/Well.lean ====
section
/-! DEFINITION. One step of RandWELL and its RAND (43_well.md R88, R89), over the OPEN mixing function; and, beside the meanings and
used by none of them, the general-knowledge form of that function (R90). -/

namespace Sys2Proof.Machine

/-- `(IDX + 15) & 15`, on the 4-bit index (R88; 90_conflicts.md C5; DEDUCED that four bits suffice, log 13: safe). -/
def wellNextIndex (k : BitVec 4) : BitVec 4 := (k + wellIndexStep) &&& wellIndexMask

/-- One step of RandWELL under a mixing function (R88): the words, the index after the step, the raw output. -/
def stepWellWith (mix : Words 32 16 → BitVec 4 → Words 32 16 × Word32) (v : Words 32 16) (k : BitVec 4) :
    Words 32 16 × BitVec 4 × Word32 :=
  let p := mix v k
  (p.1, wellNextIndex k, p.2)

/-- One step of RandWELL (R88, R89): the mixing function is the OPEN parameter. -/
def stepWell (v : Words 32 16) (k : BitVec 4) : Words 32 16 × BitVec 4 × Word32 := stepWellWith Config.wellMix v k

/-- RAND.WELL (R88). -/
def execRandWell (s : State) : Host.Outcome State Fault Refusal :=
  let p := stepWell s.well s.idx
  complete (zext64 p.2.2) (s.setWell p.1 p.2.1)

/-- Word `k` of the array, `k` a 4-bit index, so always in range (R88). -/
def wellWord (v : Words 32 16) (k : BitVec 4) : Word32 := v[k.toNat]'k.isLt

/-- The instance of `WELL_MIX` that R90 gives from general knowledge, its statements in order. PRESUMED (by the spec itself,
"not in source"), log 2; no meaning uses it. -/
def wellMixR90 (v : Words 32 16) (k : BitVec 4) : Words 32 16 × Word32 :=
  let a := wellWord v k
  let c := wellWord v (k + wellOffsetSecond)
  let b := a ^^^ c ^^^ (a <<< 16) ^^^ (c <<< 15)
  let c := wellWord v (k + wellOffsetThird)
  let c := c ^^^ (c >>> 11)
  let a := b ^^^ c
  let v := v.set k.toNat a k.isLt
  let d := a ^^^ ((a <<< 5) &&& 0xDA442D24)
  let j := wellNextIndex k
  let a := wellWord v j
  let v := v.set j.toNat (a ^^^ b ^^^ d ^^^ (a <<< 2) ^^^ (b <<< 18) ^^^ (c <<< 28)) j.isLt
  (v, wellWord v j)

end Sys2Proof.Machine
end

