-- ==== Sys2Proof/Machine/Xoroshiro64.lean ====
section
/-! DEFINITION. One step of the three 64-bit engines and their RAND (42_xoroshiro64.md R84 to R87). -/

namespace Sys2Proof.Machine

/-- One step of Xoroshiro128+ (R84); `x` is the document's `s1` after `s1^=s0`. -/
def stepXR128P (v : Words 64 2) : Words 64 2 × Word64 :=
  let r := v[0] + v[1]
  let x := v[1] ^^^ v[0]
  let s0 := rotl v[0] xr128pRotA ^^^ x ^^^ (x <<< xr128pShift)
  let s1 := rotl x xr128pRotB
  (#v[s0, s1], r)

/-- One step of Xoroshiro256+ (R85). -/
def stepXR256P (v : Words 64 4) : Words 64 4 × Word64 :=
  (update4 xr256pShift xr256pRot v, v[0] + v[3])

/-- One step of Xoroshiro512+, its statements in order (R86). -/
def stepXR512P (v : Words 64 8) : Words 64 8 × Word64 :=
  let r := v[0] + v[2]
  let t := v[1] <<< xr512pShift
  let s2 := v[2] ^^^ v[0]
  let s5 := v[5] ^^^ v[1]
  let s1 := v[1] ^^^ s2
  let s7 := v[7] ^^^ v[3]
  let s3 := v[3] ^^^ v[4]
  let s4 := v[4] ^^^ s5
  let s0 := v[0] ^^^ v[6]
  let s6 := v[6] ^^^ s7
  let s6 := s6 ^^^ t
  let s7 := rotl s7 xr512pRot
  (#v[s0, s1, s2, s3, s4, s5, s6, s7], r)

/-- RAND.XR128P (R84). -/
def execRandXR128P (s : State) : Host.Outcome State Fault Refusal :=
  let p := stepXR128P s.xr128p
  complete p.2 (s.setXr128p p.1)

/-- RAND.XR256P (R85). -/
def execRandXR256P (s : State) : Host.Outcome State Fault Refusal :=
  let p := stepXR256P s.xr256p
  complete p.2 (s.setXr256p p.1)

/-- RAND.XR512P (R86). -/
def execRandXR512P (s : State) : Host.Outcome State Fault Refusal :=
  let p := stepXR512P s.xr512p
  complete p.2 (s.setXr512p p.1)

end Sys2Proof.Machine
end

