-- ==== Sys2Proof/Machine/Xoshiro32.lean ====
section
/-! DEFINITION. One step of the two 32-bit Xoshiro engines and their RAND (41_xoshiro32.md R80 to R83). A step gives the state array
after it and the raw output, which is computed from the array before it (R80). -/

namespace Sys2Proof.Machine

/-- One step of Xoshiro128** (R82). -/
def stepX128SS (v : Words 32 4) : Words 32 4 × Word32 :=
  (update4 xoshiro128Shift xoshiro128Rot v, rotl (v[0] * x128ssMulIn) x128ssRotOut * x128ssMulOut)

/-- One step of Xoshiro128+ (R83). -/
def stepX128P (v : Words 32 4) : Words 32 4 × Word32 :=
  (update4 xoshiro128Shift xoshiro128Rot v, v[0] + v[3])

/-- RAND.X128SS (R82). -/
def execRandX128SS (s : State) : Host.Outcome State Fault Refusal :=
  let p := stepX128SS s.x128ss
  complete (zext64 p.2) (s.setX128ss p.1)

/-- RAND.X128P (R83). -/
def execRandX128P (s : State) : Host.Outcome State Fault Refusal :=
  let p := stepX128P s.x128p
  complete (zext64 p.2) (s.setX128p p.1)

end Sys2Proof.Machine
end

