-- ==== Sys2Proof/Machine/FloatCommands.lean ====
section
/-! DEFINITION. FRAND, FRAND2 and DRAND2: the step of the engine's RAND, its raw output converted (44_float_conversion.md R99 to
R108). -/

namespace Sys2Proof.Machine

/-- FRAND.X128SS (R100). -/
def execFrandX128SS (s : State) : Host.Outcome State Fault Refusal :=
  let p := stepX128SS s.x128ss
  complete (zext64 (toF32_0 p.2)) (s.setX128ss p.1)

/-- FRAND.X128P (R101). -/
def execFrandX128P (s : State) : Host.Outcome State Fault Refusal :=
  let p := stepX128P s.x128p
  complete (zext64 (toF32_0 p.2)) (s.setX128p p.1)

/-- FRAND.WELL (R102). -/
def execFrandWell (s : State) : Host.Outcome State Fault Refusal :=
  let p := stepWell s.well s.idx
  complete (zext64 (toF32_0 p.2.2)) (s.setWell p.1 p.2.1)

/-- FRAND2.X128SS (R103). -/
def execFrand2X128SS (s : State) : Host.Outcome State Fault Refusal :=
  let p := stepX128SS s.x128ss
  complete (zext64 (toF32_1 p.2)) (s.setX128ss p.1)

/-- FRAND2.X128P (R104). -/
def execFrand2X128P (s : State) : Host.Outcome State Fault Refusal :=
  let p := stepX128P s.x128p
  complete (zext64 (toF32_1 p.2)) (s.setX128p p.1)

/-- FRAND2.WELL (R105). -/
def execFrand2Well (s : State) : Host.Outcome State Fault Refusal :=
  let p := stepWell s.well s.idx
  complete (zext64 (toF32_1 p.2.2)) (s.setWell p.1 p.2.1)

/-- DRAND2.XR128P (R106). -/
def execDrand2XR128P (s : State) : Host.Outcome State Fault Refusal :=
  let p := stepXR128P s.xr128p
  complete (toF64 p.2) (s.setXr128p p.1)

/-- DRAND2.XR256P (R107). -/
def execDrand2XR256P (s : State) : Host.Outcome State Fault Refusal :=
  let p := stepXR256P s.xr256p
  complete (toF64 p.2) (s.setXr256p p.1)

/-- DRAND2.XR512P (R108). -/
def execDrand2XR512P (s : State) : Host.Outcome State Fault Refusal :=
  let p := stepXR512P s.xr512p
  complete (toF64 p.2) (s.setXr512p p.1)

end Sys2Proof.Machine
end

