-- ==== Sys2Proof/Machine/Init.lean ====
section
/-! DEFINITION. INIT, the default construction of one engine (40_seed_and_init.md R71 to R76). -/

namespace Sys2Proof.Machine

/-- INIT.X128SS (R71). -/
def execInitX128SS (s : State) : Host.Outcome State Fault Refusal :=
  complete 0 (s.setX128ss Config.defaultX128SS)

/-- INIT.X128P (R72). -/
def execInitX128P (s : State) : Host.Outcome State Fault Refusal :=
  complete 0 (s.setX128p Config.defaultX128P)

/-- INIT.XR128P (R73). -/
def execInitXR128P (s : State) : Host.Outcome State Fault Refusal :=
  complete 0 (s.setXr128p Config.defaultXR128P)

/-- INIT.XR256P (R74). -/
def execInitXR256P (s : State) : Host.Outcome State Fault Refusal :=
  complete 0 (s.setXr256p Config.defaultXR256P)

/-- INIT.XR512P (R75). -/
def execInitXR512P (s : State) : Host.Outcome State Fault Refusal :=
  complete 0 (s.setXr512p Config.defaultXR512P)

/-- INIT.WELL, index included (R76). -/
def execInitWell (s : State) : Host.Outcome State Fault Refusal :=
  complete 0 (s.setWell Config.defaultWell Config.defaultWellIndex)

end Sys2Proof.Machine
end

