-- ==== Sys2Proof/Machine/Seed.lean ====
section
/-! DEFINITION. The seed-expansion mixer (40_seed_and_init.md R59 to R61) and SRAND on the six engines (R65 to R70). -/

namespace Sys2Proof.Machine

/-- Word `i` of the seed expansion: the recurrence of R59, the product first and then the index added. -/
def expandWord {w : Nat} (mult : BitVec w) (shift : Nat) (seed : BitVec w) : Nat → BitVec w
  | 0 => seed
  | i + 1 =>
    let p := expandWord mult shift seed i
    mult * (p ^^^ (p >>> shift)) + BitVec.ofNat w (i + 1)

/-- The first `n` words of an expansion (R59). -/
def expandWords {w : Nat} (mult : BitVec w) (shift : Nat) (seed : BitVec w) (n : Nat) : Words w n :=
  Vector.ofFn fun i => expandWord mult shift seed i.val

/-- `EXPAND_32(seed, n)` (R59, R60). -/
def expand32 (seed : Word32) (n : Nat) : Words 32 n := expandWords mult32 shift32 seed n

/-- `EXPAND_64(seed, n)` (R59, R61). -/
def expand64 (seed : Word64) (n : Nat) : Words 64 n := expandWords mult64 shift64 seed n

/-- SRAND.X128SS (R65). -/
def execSrandX128SS (operand : Word64) (s : State) : Host.Outcome State Fault Refusal :=
  if operandHigh operand ≠ 0 then refuse .errOperand s
  else complete 0 (s.setX128ss (expand32 (seed32 operand) 4))

/-- SRAND.X128P (R66). -/
def execSrandX128P (operand : Word64) (s : State) : Host.Outcome State Fault Refusal :=
  if operandHigh operand ≠ 0 then refuse .errOperand s
  else complete 0 (s.setX128p (expand32 (seed32 operand) 4))

/-- SRAND.XR128P (R67). -/
def execSrandXR128P (operand : Word64) (s : State) : Host.Outcome State Fault Refusal :=
  complete 0 (s.setXr128p (expand64 (seed64 operand) 2))

/-- SRAND.XR256P (R68). -/
def execSrandXR256P (operand : Word64) (s : State) : Host.Outcome State Fault Refusal :=
  complete 0 (s.setXr256p (expand64 (seed64 operand) 4))

/-- SRAND.XR512P (R69). -/
def execSrandXR512P (operand : Word64) (s : State) : Host.Outcome State Fault Refusal :=
  complete 0 (s.setXr512p (expand64 (seed64 operand) 8))

/-- SRAND.WELL, which also sets the index (R70). -/
def execSrandWell (operand : Word64) (s : State) : Host.Outcome State Fault Refusal :=
  if operandHigh operand ≠ 0 then refuse .errOperand s
  else complete 0 (s.setWell (expand32 (seed32 operand) 16) wellSrandIndex)

end Sys2Proof.Machine
end

