-- ==== Sys2Proof/Machine/Dispatch.lean ====
section
/-! DEFINITION. One arm per command (30_encoding.md R49), each one call of its meaning. -/

namespace Sys2Proof.Machine

/-- The command's effect on the block and the response that answers the request at the head of the port. -/
def exec (i : Instr) (s : State) : Host.Outcome State Fault Refusal :=
  match i with
  | .initX128SS => Sys2Proof.Machine.execInitX128SS s
  | .initX128P => Sys2Proof.Machine.execInitX128P s
  | .initXR128P => Sys2Proof.Machine.execInitXR128P s
  | .initXR256P => Sys2Proof.Machine.execInitXR256P s
  | .initXR512P => Sys2Proof.Machine.execInitXR512P s
  | .initWell => Sys2Proof.Machine.execInitWell s
  | .srandX128SS operand => Sys2Proof.Machine.execSrandX128SS operand s
  | .srandX128P operand => Sys2Proof.Machine.execSrandX128P operand s
  | .srandXR128P operand => Sys2Proof.Machine.execSrandXR128P operand s
  | .srandXR256P operand => Sys2Proof.Machine.execSrandXR256P operand s
  | .srandXR512P operand => Sys2Proof.Machine.execSrandXR512P operand s
  | .srandWell operand => Sys2Proof.Machine.execSrandWell operand s
  | .randX128SS => Sys2Proof.Machine.execRandX128SS s
  | .randX128P => Sys2Proof.Machine.execRandX128P s
  | .randXR128P => Sys2Proof.Machine.execRandXR128P s
  | .randXR256P => Sys2Proof.Machine.execRandXR256P s
  | .randXR512P => Sys2Proof.Machine.execRandXR512P s
  | .randWell => Sys2Proof.Machine.execRandWell s
  | .frandX128SS => Sys2Proof.Machine.execFrandX128SS s
  | .frandX128P => Sys2Proof.Machine.execFrandX128P s
  | .frandWell => Sys2Proof.Machine.execFrandWell s
  | .frand2X128SS => Sys2Proof.Machine.execFrand2X128SS s
  | .frand2X128P => Sys2Proof.Machine.execFrand2X128P s
  | .frand2Well => Sys2Proof.Machine.execFrand2Well s
  | .drand2XR128P => Sys2Proof.Machine.execDrand2XR128P s
  | .drand2XR256P => Sys2Proof.Machine.execDrand2XR256P s
  | .drand2XR512P => Sys2Proof.Machine.execDrand2XR512P s

end Sys2Proof.Machine
end

