-- ==== Sys2Proof/Machine/Port.lean ====
section
/-! DEFINITION. What the block does with each thing the host does: serve a request (30_encoding.md R50, 60_exceptions.md R122), or
take the reset event (70_reset_and_hazards.md R134). -/

namespace Sys2Proof.Machine

/-- Serve the request on the port: run the command it decodes to, or refuse it (30_encoding.md R50). -/
def serve (r : Request) (s : State) : Host.Outcome State Fault Refusal :=
  match decode r with
  | .run i => exec i s
  | .refuse st => refuse st s

/-- Serve the action at the head of the port; with none there the block is idle and holds its state
(70_reset_and_hazards.md R138; DEDUCED, log 7: safe). -/
def serveHead (s : State) : Host.Outcome State Fault Refusal :=
  match s.pending with
  | [] => .next s
  | .request r :: _ => serve r s
  | .reset :: _ => .next s.resetEvent

/-- The host presents a request as its next action. -/
def State.present (r : Request) (s : State) : State := { s with pending := .request r :: s.pending }

end Sys2Proof.Machine
end

