-- ==== Sys2Proof/Machine/Step.lean ====
section
/-! DEFINITION. One step of the block: one host action served, atomically (20_memory.md R37, R39). -/

namespace Sys2Proof.Machine

/-- One step: the action at the head of the port is served whole. -/
def step (s : State) : Host.Outcome State Fault Refusal := serveHead s

/-- The state with the command word `w` presented as the host's next action, so that the next step runs it. The block fetches
nothing (10_state.md R27): a command is presented on the request port (log 4). -/
def State.withFetchWord (s : State) (nbits w : Nat) : State := s.present (requestOfTableWord nbits w)

end Sys2Proof.Machine
end

