-- ==== Sys2Proof/Safety.lean ====
section
/-! DEFINITION. The terms the claims use: when two states agree on an engine, what a legal list of responses is, how many requests the
host has still to be answered, a list of commands run in order, and the value of a float pattern as R93 gives it. -/

namespace Sys2Proof.Machine

/-- The two states agree on everything engine `e` owns (10_state.md R23): its state array, and IDX for WELL. -/
def EngineEq : Engine → State → State → Prop
  | .x128ss, s, t => s.x128ss = t.x128ss
  | .x128p, s, t => s.x128p = t.x128p
  | .xr128p, s, t => s.xr128p = t.xr128p
  | .xr256p, s, t => s.xr256p = t.xr256p
  | .xr512p, s, t => s.xr512p = t.xr512p
  | .well, s, t => s.well = t.well ∧ s.idx = t.idx

/-- The two states agree on the whole architectural state (10_state.md R15). -/
def SameBlock (s t : State) : Prop := ∀ e, EngineEq e s t

/-- Every word of the engine's state array is 0 (10_state.md R32). -/
def EngineZero : Engine → State → Prop
  | .x128ss, s => s.x128ss = Vector.replicate 4 0
  | .x128p, s => s.x128p = Vector.replicate 4 0
  | .xr128p, s => s.xr128p = Vector.replicate 2 0
  | .xr256p, s => s.xr256p = Vector.replicate 4 0
  | .xr512p, s => s.xr512p = Vector.replicate 8 0
  | .well, s => s.well = Vector.replicate 16 0

/-- The state in which the request on the port has been answered with this STATUS and RESULT, and nothing else has changed
(30_encoding.md R44, R47); that the request leaves the port with its answer is log 17 (DESIGN CHOICE). -/
def afterResponse (status : BitVec 3) (result : Word64) (s : State) : State :=
  { s with
    pending := s.pending.tail
    responses := s.responses ++ [{ status := status, result := result }] }

/-- The words are the seed expansion of `seed` with these constants, as the recurrence of 40_seed_and_init.md R59 says. -/
def ExpansionOf {w n : Nat} (mult : BitVec w) (shift : Nat) (seed : BitVec w) (v : Words w n) : Prop :=
  (∀ _ : 0 < n, v[0] = seed) ∧
    ∀ (i : Nat) (_ : i + 1 < n), v[i + 1] = mult * (v[i] ^^^ (v[i] >>> shift)) + BitVec.ofNat w (i + 1)

/-- A float command of an engine against its RAND (44_float_conversion.md R99): the same next state, but that the response holds the
converted value of the raw output that RAND's response holds. -/
def ConvertsStepOf (rand float : Instr) (conv : Word64 → Word64) : Prop :=
  ∀ s, ∃ t raw, exec rand s = .next t ∧ t.responses = s.responses ++ [{ status := 0, result := raw }] ∧
    exec float s = .next { t with responses := s.responses ++ [{ status := 0, result := conv raw }] }

/-- A response the block may give: STATUS 0 to 5, and RESULT 0 unless STATUS is OK (30_encoding.md R47, 60_exceptions.md R123). -/
def Response.Legal (r : Response) : Prop := r.status.toNat ≤ 5 ∧ (r.status ≠ 0 → r.result = 0)

/-- Every response delivered so far is a legal one. -/
def ResponsesLegal (s : State) : Prop := ∀ r ∈ s.responses, Response.Legal r

/-- How many of the host's actions are requests: reset events get no response (70_reset_and_hazards.md R134). -/
def requestCount : List HostAction → Nat
  | [] => 0
  | .request _ :: rest => requestCount rest + 1
  | .reset :: rest => requestCount rest

/-- The commands of a list, executed in order (20_memory.md R39). -/
def execList : List Instr → State → Host.Outcome State Fault Refusal
  | [], s => .next s
  | i :: rest, s =>
    match exec i s with
    | .next t => execList rest t
    | .fault f => .fault f
    | .refused r => .refused r

/-- The value of a pattern as 44_float_conversion.md R93 states it: +0.0 for the all-zero pattern, `(-1)^sign * 2^(exponent - bias) *
(1 + fraction / 2^F)` for `0 < exponent < all-ones`, and no value for a pattern R93 does not speak of. -/
def ieeeValue (f : FloatFormat) (bits : Nat) : Option ℚ :=
  if bits = 0 then some 0
  else if 0 < floatExp f bits ∧ floatExp f bits < 2 ^ f.expBits - 1 then
    some ((if floatSign f bits then -1 else 1)
      * (2 : ℚ) ^ ((floatExp f bits : ℤ) - (2 ^ (f.expBits - 1) - 1))
      * (1 + (floatFrac f bits : ℚ) / 2 ^ f.fracBits))
  else none

end Sys2Proof.Machine
end

