-- ==== Sys2Proof/WellFormed.lean ====
section
/-! DEFINITION. Which instruction terms are commands of the block: the seed of a 32-bit engine has its type (30_encoding.md R46). -/

namespace Sys2Proof

/-- `OPERAND` is a 32-bit seed: its upper half is zero (30_encoding.md R46). -/
def seedFits32 (operand : Word64) : Bool := decide (operand.toNat < 2 ^ 32)

/-- A SRAND to a 32-bit engine needs a 32-bit seed; every other term is well formed (30_encoding.md R46, R63). -/
def Instr.wellFormed : Instr → Bool
  | .initX128SS => true
  | .initX128P => true
  | .initXR128P => true
  | .initXR256P => true
  | .initXR512P => true
  | .initWell => true
  | .srandX128SS operand => seedFits32 operand
  | .srandX128P operand => seedFits32 operand
  | .srandXR128P _ => true
  | .srandXR256P _ => true
  | .srandXR512P _ => true
  | .srandWell operand => seedFits32 operand
  | .randX128SS => true
  | .randX128P => true
  | .randXR128P => true
  | .randXR256P => true
  | .randXR512P => true
  | .randWell => true
  | .frandX128SS => true
  | .frandX128P => true
  | .frandWell => true
  | .frand2X128SS => true
  | .frand2X128P => true
  | .frand2Well => true
  | .drand2XR128P => true
  | .drand2XR256P => true
  | .drand2XR512P => true

end Sys2Proof
end

