-- ==== Sys2Proof/Certificates/Slice0/Obligations.lean ====
section
/-! DEFINITION. The statements for the provers, each about the machine and drawn from a rule of the spec. Nothing is proved here. -/

open Sys2Proof Sys2Proof.Machine

/-- Encoder and decoder agree on all 27 commands and every legal seed (30_encoding.md R46, R49, R50). -/
def Obligations.DecodeOfEncodeReturnsCommand : Prop :=
  ∀ i : Instr, i.wellFormed = true → decode (encode i) = .run i

/-- The other direction: a command is selected by the whole word (30_encoding.md R49), so no bit of CMD is dropped and reserved words never fall through to a neighbour. -/
def Obligations.DecodedCommandIsTheEncodedOne : Prop :=
  ∀ (r : Request) (i : Instr), decode r = .run i →
    i.wellFormed = true ∧ (encode i).cmd = r.cmd ∧
      (encode i).operand = if i.op = .srand then r.operand else 0

/-- A sanity statement on six words of the table (30_encoding.md R49). -/
def Obligations.WrittenOutWordsDecode : Prop :=
  decode { cmd := 0b000000000000000000000000_0101_0001, operand := 0 } = .run .initWell ∧
  decode { cmd := 0b000000000000000000000000_0001_0010, operand := 0x1234 } = .run (.srandX128P 0x1234) ∧
  decode { cmd := 0b000000000000000000000000_0011_0011, operand := 0 } = .run .randXR256P ∧
  decode { cmd := 0b000000000000000000000000_0000_0100, operand := 0 } = .run .frandX128SS ∧
  decode { cmd := 0b000000000000000000000000_0101_0101, operand := 0 } = .run .frand2Well ∧
  decode { cmd := 0b000000000000000000000000_0100_0110, operand := 0 } = .run .drand2XR512P

/-- R50: decoding is total, its checks are made in this order, and of the 2^32 words 27 are legal. -/
def Obligations.DecoderMakesSixChecksInOrder : Prop :=
  (∀ r : Request,
    let c := r.cmd.toNat
    let op := c % 16
    let eng := c / 16 % 16
    let absent := ((op = 4 ∨ op = 5) ∧ (eng = 2 ∨ eng = 3 ∨ eng = 4)) ∨ (op = 6 ∧ (eng = 0 ∨ eng = 1 ∨ eng = 5))
    let wideSeed := op = 2 ∧ (eng = 0 ∨ eng = 1 ∨ eng = 5) ∧ 2 ^ 32 ≤ r.operand.toNat
    (c / 256 ≠ 0 → decode r = .refuse .errReservedBits) ∧
    (c / 256 = 0 → op = 0 ∨ 7 ≤ op → decode r = .refuse .errOpcode) ∧
    (c / 256 = 0 → 1 ≤ op → op ≤ 6 → 6 ≤ eng → decode r = .refuse .errEngine) ∧
    (c / 256 = 0 → 1 ≤ op → op ≤ 6 → eng ≤ 5 → absent → decode r = .refuse .errUnsupported) ∧
    (c / 256 = 0 → 1 ≤ op → op ≤ 6 → eng ≤ 5 → ¬ absent → wideSeed → decode r = .refuse .errOperand) ∧
    (c / 256 = 0 → 1 ≤ op → op ≤ 6 → eng ≤ 5 → ¬ absent → ¬ wideSeed →
      ∃ i, decode r = .run i ∧ opNumber i.op = op ∧ engineNumber i.engine = eng ∧
        (op = 2 → (encode i).operand = r.operand))) ∧
  ∃ words : List (BitVec 32), words.length = 27 ∧ words.Nodup ∧
    ∀ cmd, cmd ∈ words ↔ ∃ i, decode { cmd := cmd, operand := 0 } = .run i

/-- R51. -/
def Obligations.ReservedBitsAreRefused : Prop :=
  ∀ (r : Request) (k : Nat), 8 ≤ k → k < 32 → r.cmd.getLsbD k = true → decode r = .refuse .errReservedBits

/-- R52, with the order of R50 where both fields are reserved. -/
def Obligations.ReservedOpAndEngAreRefused : Prop :=
  ∀ operand : Word64,
    (∀ op eng : Nat, op < 16 → eng < 16 → op = 0 ∨ 7 ≤ op →
      decode { cmd := BitVec.ofNat 32 (eng * 16 + op), operand := operand } = .refuse .errOpcode) ∧
    (∀ op eng : Nat, 1 ≤ op → op ≤ 6 → 6 ≤ eng → eng < 16 →
      decode { cmd := BitVec.ofNat 32 (eng * 16 + op), operand := operand } = .refuse .errEngine) ∧
    decode { cmd := 0x00000000, operand := operand } = .refuse .errOpcode

/-- R53: the nine pairs are not added. -/
def Obligations.AbsentPairsAreUnsupported : Prop :=
  ∀ (operand : Word64), ∀ cmd ∈ ([0x24, 0x34, 0x44, 0x25, 0x35, 0x45, 0x06, 0x16, 0x56] : List (BitVec 32)),
    decode { cmd := cmd, operand := operand } = .refuse .errUnsupported

/-- R46: every command but SRAND ignores all 64 bits of OPERAND. -/
def Obligations.OnlySrandReadsOperand : Prop :=
  ∀ (cmd : BitVec 32) (a b : Word64), cmd.toNat % 16 ≠ 2 →
    decode { cmd := cmd, operand := a } = decode { cmd := cmd, operand := b }

/-- The two renamings of the listing notation (30_encoding.md R57). -/
def Obligations.RenamedLinesAssembleToTheirCommands : Prop :=
  ∀ e : Engine,
    (∃ i, decode (assemble (.nextOf e)) = .run i ∧ i.op = .rand ∧ i.engine = e) ∧
    ∀ v : Word64, (e.width = 32 → v.toNat < 2 ^ 32) →
      ∃ i, decode (assemble (.seedOf e v)) = .run i ∧ i.op = .srand ∧ i.engine = e ∧ (encode i).operand = v

/-- What carries the per-command statements to a step (30_encoding.md R50, 20_memory.md R39). How the request stands on the port is the model's choice (log 4, log 17). -/
def Obligations.StepRunsDecodedCommand : Prop :=
  ∀ (s : State) (r : Request) (rest : List HostAction) (i : Instr),
    s.pending = .request r :: rest → decode r = .run i → step s = exec i s

/-- The model's own convention for presenting a command (log 4, log 15: DESIGN CHOICE), over 30_encoding.md R44. -/
def Obligations.PresentedWordIsTheNextCommand : Prop :=
  ∀ (s : State) (nbits w : Nat) (i : Instr), decodeTableWord nbits w = some i →
    step (s.withFetchWord nbits w) = exec i (s.withFetchWord nbits w) ∧ SameBlock (s.withFetchWord nbits w) s ∧
      (s.withFetchWord nbits w).responses = s.responses

/-- No state word changes (60_exceptions.md R126), and STATUS is not 0 and RESULT is 0 (R122, R123, 30_encoding.md R47). That a refusal is answered in a next state is log 6 (DEDUCED), and that the request leaves the port with its answer is log 17 (DESIGN CHOICE). -/
def Obligations.RefusedRequestChangesNoState : Prop :=
  ∀ (s : State) (r : Request) (rest : List HostAction) (st : Status),
    s.pending = .request r :: rest → decode r = .refuse st →
      statusCode st ≠ 0 ∧
        step s = .next { s with pending := rest, responses := s.responses ++ [{ status := statusCode st, result := 0 }] }

/-- The examples of 60_exceptions.md R127 with the codes of R123 and RESULT 0 (R122). That the answer is a next state without the request is log 6 (DEDUCED) and log 17 (DESIGN CHOICE). -/
def Obligations.RefusalPriorityExamples : Prop :=
  ∀ (s : State) (operand : Word64),
    let answered := fun (status : BitVec 3) =>
      Host.Outcome.next (φ := Fault) (ρ := Refusal)
        { s with responses := s.responses ++ [{ status := status, result := 0 }] }
    step (s.present { cmd := 0x00000100, operand := operand }) = answered 1 ∧
    step (s.present { cmd := 0x000000F0, operand := operand }) = answered 2 ∧
    step (s.present { cmd := 0x00000064, operand := operand }) = answered 3 ∧
    step (s.present { cmd := 0x00000006, operand := operand }) = answered 4 ∧
    step (s.present { cmd := 0x00000002, operand := 0x0000000100000000 }) = answered 5

/-- The arrays, IDX and the missing response are 70_reset_and_hazards.md R134. That the event leaves the port and the host's later actions stay is log 8 (DEDUCED), over the port of log 4. The defaults are OPEN: the statement holds for every value of them (log 1). -/
def Obligations.ResetEventLoadsDefaults : Prop :=
  ∀ (s : State) (rest : List HostAction), s.pending = .reset :: rest →
    step s = .next
      { x128ss := Config.defaultX128SS, x128p := Config.defaultX128P, xr128p := Config.defaultXR128P
        xr256p := Config.defaultXR256P, xr512p := Config.defaultXR512P, well := Config.defaultWell
        idx := Config.defaultWellIndex, pending := rest, responses := s.responses }

/-- R31 over the OPEN parameters (log 1). -/
def Obligations.ResetStateIsDefault : Prop :=
  (State.reset.x128ss = Config.defaultX128SS ∧ State.reset.x128p = Config.defaultX128P ∧
    State.reset.xr128p = Config.defaultXR128P ∧ State.reset.xr256p = Config.defaultXR256P ∧
    State.reset.xr512p = Config.defaultXR512P ∧ State.reset.well = Config.defaultWell ∧
    State.reset.idx = Config.defaultWellIndex) ∧
  ∀ (i : Instr) (s : State), i.op = .init → ∃ t, exec i s = .next t ∧ EngineEq i.engine t State.reset

/-- 70_reset_and_hazards.md R135; an inference the spec marks as its own ("derived"). -/
def Obligations.ResetEqualsSixInitsInAnyOrder : Prop :=
  ∀ (l : List Instr),
    l.Perm [.initX128SS, .initX128P, .initXR128P, .initXR256P, .initXR512P, .initWell] →
    ∀ s : State, ∃ t, execList l s = .next t ∧ SameBlock t State.reset

/-- 70_reset_and_hazards.md R138. That an idle block takes a step at all is the model's reading (log 7, DEDUCED). -/
def Obligations.IdleBlockHoldsItsState : Prop :=
  ∀ s : State, s.pending = [] → step s = .next s

/-- No operation fails once decoded and an illegal request is answered (60_exceptions.md R122); the block never halts (70_reset_and_hazards.md R143). -/
def Obligations.EveryStepGoesOn : Prop :=
  ∀ s : State, ∃ t, step s = .next t

/-- Each request is answered by exactly one response (30_encoding.md R44); a reset event gives none (70_reset_and_hazards.md R134). -/
def Obligations.EachRequestGetsOneResponse : Prop :=
  ∀ s t : State, step s = .next t →
    t.responses.length + requestCount t.pending = s.responses.length + requestCount s.pending ∧
      s.responses <+: t.responses

/-- Codes 6 and 7 are never produced (60_exceptions.md R123); RESULT is 0 on every refusal (30_encoding.md R47). -/
def Obligations.StepKeepsResponsesLegal : Prop :=
  ∀ s t : State, ResponsesLegal s → step s = .next t → ResponsesLegal t

/-- The invariant's base (log 5: the list is empty at reset, the model's choice). -/
def Obligations.ResetResponsesLegal : Prop :=
  ResponsesLegal State.reset

/-- Every accepted request gets its response (70_reset_and_hazards.md R142); a run is a finite list of host actions and its result the list of responses (R143). -/
def Obligations.RunAnswersEveryPendingRequest : Prop :=
  ∀ s : State, ∃ t : State, Host.Core.run Sys2Proof.core s.pending.length s = .next t ∧ t.pending = [] ∧
    s.responses <+: t.responses ∧ t.responses.length = s.responses.length + requestCount s.pending

/-- R71 to R76, over the OPEN defaults (log 1). The record updates are the frame: nothing but the named fields and the port changes. -/
def Obligations.InitLoadsDefaultState : Prop :=
  (∀ operand : Word64,
    decode { cmd := 0x00000001, operand := operand } = .run .initX128SS ∧
    decode { cmd := 0x00000011, operand := operand } = .run .initX128P ∧
    decode { cmd := 0x00000021, operand := operand } = .run .initXR128P ∧
    decode { cmd := 0x00000031, operand := operand } = .run .initXR256P ∧
    decode { cmd := 0x00000041, operand := operand } = .run .initXR512P ∧
    decode { cmd := 0x00000051, operand := operand } = .run .initWell) ∧
  ∀ s : State,
    exec .initX128SS s = .next (afterResponse 0 0 { s with x128ss := Config.defaultX128SS }) ∧
    exec .initX128P s = .next (afterResponse 0 0 { s with x128p := Config.defaultX128P }) ∧
    exec .initXR128P s = .next (afterResponse 0 0 { s with xr128p := Config.defaultXR128P }) ∧
    exec .initXR256P s = .next (afterResponse 0 0 { s with xr256p := Config.defaultXR256P }) ∧
    exec .initXR512P s = .next (afterResponse 0 0 { s with xr512p := Config.defaultXR512P }) ∧
    exec .initWell s = .next (afterResponse 0 0 { s with well := Config.defaultWell, idx := Config.defaultWellIndex })

/-- R65, R66 with R59, R60. The recurrence and both constants are written out here. -/
def Obligations.SrandExpandsSeedOnXoshiro128 : Prop :=
  ∀ (operand : Word64) (s : State),
    (operand.toNat < 2 ^ 32 → decode { cmd := 0x00000002, operand := operand } = .run (.srandX128SS operand)) ∧
    (2 ^ 32 ≤ operand.toNat → decode { cmd := 0x00000002, operand := operand } = .refuse .errOperand) ∧
    (operand.toNat < 2 ^ 32 →
      ∃ v : Words 32 4, ExpansionOf 1812433253 30 (operand.setWidth 32) v ∧
        exec (.srandX128SS operand) s = .next (afterResponse 0 0 { s with x128ss := v })) ∧
    (2 ^ 32 ≤ operand.toNat → exec (.srandX128SS operand) s = .next (afterResponse 5 0 s)) ∧
    (operand.toNat < 2 ^ 32 → decode { cmd := 0x00000012, operand := operand } = .run (.srandX128P operand)) ∧
    (2 ^ 32 ≤ operand.toNat → decode { cmd := 0x00000012, operand := operand } = .refuse .errOperand) ∧
    (operand.toNat < 2 ^ 32 →
      ∃ v : Words 32 4, ExpansionOf 1812433253 30 (operand.setWidth 32) v ∧
        exec (.srandX128P operand) s = .next (afterResponse 0 0 { s with x128p := v })) ∧
    (2 ^ 32 ≤ operand.toNat → exec (.srandX128P operand) s = .next (afterResponse 5 0 s))

/-- R67 to R69 with R59, R61. -/
def Obligations.SrandExpandsSeedOn64BitEngines : Prop :=
  ∀ (operand : Word64) (s : State),
    decode { cmd := 0x00000022, operand := operand } = .run (.srandXR128P operand) ∧
    (∃ v : Words 64 2, ExpansionOf 18124332531812433253 60 operand v ∧
      exec (.srandXR128P operand) s = .next (afterResponse 0 0 { s with xr128p := v })) ∧
    decode { cmd := 0x00000032, operand := operand } = .run (.srandXR256P operand) ∧
    (∃ v : Words 64 4, ExpansionOf 18124332531812433253 60 operand v ∧
      exec (.srandXR256P operand) s = .next (afterResponse 0 0 { s with xr256p := v })) ∧
    decode { cmd := 0x00000042, operand := operand } = .run (.srandXR512P operand) ∧
    (∃ v : Words 64 8, ExpansionOf 18124332531812433253 60 operand v ∧
      exec (.srandXR512P operand) s = .next (afterResponse 0 0 { s with xr512p := v }))

/-- R70; that IDX becomes 0 is the spec's own decision D10 (log 3). -/
def Obligations.SrandExpandsSeedOnWell : Prop :=
  ∀ (operand : Word64) (s : State),
    (operand.toNat < 2 ^ 32 → decode { cmd := 0x00000052, operand := operand } = .run (.srandWell operand)) ∧
    (2 ^ 32 ≤ operand.toNat → decode { cmd := 0x00000052, operand := operand } = .refuse .errOperand) ∧
    (operand.toNat < 2 ^ 32 →
      ∃ v : Words 32 16, ExpansionOf 1812433253 30 (operand.setWidth 32) v ∧
        exec (.srandWell operand) s = .next (afterResponse 0 0 { s with well := v, idx := 0 })) ∧
    (2 ^ 32 ≤ operand.toNat → exec (.srandWell operand) s = .next (afterResponse 5 0 s))

/-- Seeding is always a full rebuild (40_seed_and_init.md R62); the old state has no influence on INIT (R71). -/
def Obligations.RebuildDiscardsPriorState : Prop :=
  ∀ (i : Instr) (s s' : State), i.op = .init ∨ i.op = .srand → i.wellFormed = true →
    ∃ t t', exec i s = .next t ∧ exec i s' = .next t' ∧ EngineEq i.engine t t'

/-- 40_seed_and_init.md R64, an inference the spec marks as its own; it includes seed 0. -/
def Obligations.NoSeedGivesAllZeroState : Prop :=
  ∀ (i : Instr) (s : State), i.op = .srand → i.wellFormed = true →
    ∃ t, exec i s = .next t ∧ ¬ EngineZero i.engine t

/-- The initial-part property of 40_seed_and_init.md R59, an inference the spec marks as its own. -/
def Obligations.ShorterExpansionsBeginLongerOnes : Prop :=
  ∀ (operand : Word64) (s : State),
    (operand.toNat < 2 ^ 32 → ∃ a b c,
      exec (.srandX128SS operand) s = .next a ∧ exec (.srandX128P operand) s = .next b ∧
      exec (.srandWell operand) s = .next c ∧
      ∀ (k : Nat) (_ : k < 4), a.x128ss[k] = b.x128p[k] ∧ b.x128p[k] = c.well[k]) ∧
    (∃ a b c,
      exec (.srandXR128P operand) s = .next a ∧ exec (.srandXR256P operand) s = .next b ∧
      exec (.srandXR512P operand) s = .next c ∧
      (∀ (k : Nat) (_ : k < 2), a.xr128p[k] = b.xr256p[k]) ∧ ∀ (k : Nat) (_ : k < 4), b.xr256p[k] = c.xr512p[k])

/-- R82 with the closed form of R81 (which the spec marks as derived), so this is not the definition's own sequence of statements. -/
def Obligations.RandX128SSResultAndState : Prop :=
  ∀ s : State,
    let s0 := s.x128ss[0]
    let s1 := s.x128ss[1]
    let s2 := s.x128ss[2]
    let s3 := s.x128ss[3]
    exec .randX128SS s = .next (afterResponse 0 (((s0 * 5).rotateLeft 7 * 9).setWidth 64) { s with
      x128ss := #v[s0 ^^^ s1 ^^^ s3, s0 ^^^ s1 ^^^ s2, s0 ^^^ s2 ^^^ (s1 <<< 9), (s1 ^^^ s3).rotateLeft 11] })

/-- R83 with the closed form of R81. -/
def Obligations.RandX128PResultAndState : Prop :=
  ∀ s : State,
    let s0 := s.x128p[0]
    let s1 := s.x128p[1]
    let s2 := s.x128p[2]
    let s3 := s.x128p[3]
    exec .randX128P s = .next (afterResponse 0 ((s0 + s3).setWidth 64) { s with
      x128p := #v[s0 ^^^ s1 ^^^ s3, s0 ^^^ s1 ^^^ s2, s0 ^^^ s2 ^^^ (s1 <<< 9), (s1 ^^^ s3).rotateLeft 11] })

/-- The closed form of R84. -/
def Obligations.RandXR128PResultAndState : Prop :=
  ∀ s : State,
    let s0 := s.xr128p[0]
    let s1 := s.xr128p[1]
    exec .randXR128P s = .next (afterResponse 0 (s0 + s1) { s with
      xr128p := #v[s0.rotateLeft 24 ^^^ (s0 ^^^ s1) ^^^ ((s0 ^^^ s1) <<< 16), (s0 ^^^ s1).rotateLeft 37] })

/-- The closed form of R85. -/
def Obligations.RandXR256PResultAndState : Prop :=
  ∀ s : State,
    let s0 := s.xr256p[0]
    let s1 := s.xr256p[1]
    let s2 := s.xr256p[2]
    let s3 := s.xr256p[3]
    exec .randXR256P s = .next (afterResponse 0 (s0 + s3) { s with
      xr256p := #v[s0 ^^^ s1 ^^^ s3, s0 ^^^ s1 ^^^ s2, s0 ^^^ s2 ^^^ (s1 <<< 17), (s1 ^^^ s3).rotateLeft 45] })

/-- The closed form of R86. -/
def Obligations.RandXR512PResultAndState : Prop :=
  ∀ s : State,
    let s0 := s.xr512p[0]
    let s1 := s.xr512p[1]
    let s2 := s.xr512p[2]
    let s3 := s.xr512p[3]
    let s4 := s.xr512p[4]
    let s5 := s.xr512p[5]
    let s6 := s.xr512p[6]
    let s7 := s.xr512p[7]
    exec .randXR512P s = .next (afterResponse 0 (s0 + s2) { s with
      xr512p := #v[s0 ^^^ s6, s0 ^^^ s1 ^^^ s2, s0 ^^^ s2, s3 ^^^ s4, s1 ^^^ s4 ^^^ s5, s1 ^^^ s5,
        s3 ^^^ s6 ^^^ s7 ^^^ (s1 <<< 11), (s3 ^^^ s7).rotateLeft 21] })

/-- 43_well.md R88, R89 over the OPEN WELL_MIX (log 2). -/
def Obligations.RandWellMixesAndStepsIndex : Prop :=
  ∀ s : State,
    exec .randWell s = .next (afterResponse 0 ((Config.wellMix s.well s.idx).2.setWidth 64)
      { s with well := (Config.wellMix s.well s.idx).1, idx := (s.idx + 15) &&& 15 })

/-- 43_well.md R91, an inference the spec marks as its own; it holds for every WELL_MIX. -/
def Obligations.WellIndexWalksDown : Prop :=
  ∀ (l : List Instr), (∀ i ∈ l, i = .randWell ∨ i = .frandWell ∨ i = .frand2Well) →
    ∀ s : State, ∃ t, execList l s = .next t ∧ t.idx = s.idx - BitVec.ofNat 4 l.length

/-- 43_well.md R90, which the spec marks as general knowledge and not in its source (log 2: PRESUMED). No command uses this function; the statement is about the instance only. -/
def Obligations.PublishedWellMixWritesTwoWords : Prop :=
  (∀ (v : Words 32 16) (k : BitVec 4),
    let a := wellWord v k
    let c := wellWord v (k + 13)
    let d := wellWord v (k + 9)
    let new := (wellMixR90 v k).1
    wellWord new k = a ^^^ c ^^^ (a <<< 16) ^^^ (c <<< 15) ^^^ (d ^^^ (d >>> 11)) ∧
    (∀ j : BitVec 4, j ≠ k → j ≠ k + 15 → wellWord new j = wellWord v j) ∧
    (wellMixR90 v k).2 = wellWord new (k + 15)) ∧
  ∀ k : BitVec 4, wellMixR90 (Vector.replicate 16 0) k = (Vector.replicate 16 0, 0)

/-- 41_xoshiro32.md R81: "XOR-shift-rotate update identical to Xoshiro128+". -/
def Obligations.Xoshiro128EnginesShareTheirUpdate : Prop :=
  ∀ s : State, s.x128ss = s.x128p →
    ∃ t u, exec .randX128SS s = .next t ∧ exec .randX128P s = .next u ∧ t.x128ss = u.x128p

/-- 10_state.md R32, an inference the spec marks as its own; for FRAND the RESULT is that of 44_float_conversion.md R100, not 0 (log 14). -/
def Obligations.ZeroArrayIsFixedPoint : Prop :=
  ∀ (i : Instr) (s : State), i.engine ≠ .well → i.op ≠ .init → i.op ≠ .srand → EngineZero i.engine s →
    ∃ t, exec i s = .next t ∧ EngineZero i.engine t ∧
      t.responses = s.responses ++ [{ status := 0, result := if i.op = .frand then 0x34000000 else 0 }]

/-- The law of 41_xoshiro32.md R79. -/
def Obligations.RotlMovesEveryBit : Prop :=
  ∀ (w : Nat) (x : BitVec w) (k i : Nat), 0 < k → k < w → i < w →
    (rotl x k).getLsbD ((i + k) % w) = x.getLsbD i

/-- 44_float_conversion.md R99 to R102. -/
def Obligations.FrandConvertsTheRandStep : Prop :=
  let conv := fun raw : Word64 => (toF32_0 (raw.setWidth 32)).setWidth 64
  ConvertsStepOf .randX128SS .frandX128SS conv ∧ ConvertsStepOf .randX128P .frandX128P conv ∧
    ConvertsStepOf .randWell .frandWell conv

/-- 44_float_conversion.md R99, R103 to R105. -/
def Obligations.Frand2ConvertsTheRandStep : Prop :=
  let conv := fun raw : Word64 => (toF32_1 (raw.setWidth 32)).setWidth 64
  ConvertsStepOf .randX128SS .frand2X128SS conv ∧ ConvertsStepOf .randX128P .frand2X128P conv ∧
    ConvertsStepOf .randWell .frand2Well conv

/-- 44_float_conversion.md R99, R106 to R108. -/
def Obligations.Drand2ConvertsTheRandStep : Prop :=
  ConvertsStepOf .randXR128P .drand2XR128P toF64 ∧ ConvertsStepOf .randXR256P .drand2XR256P toF64 ∧
    ConvertsStepOf .randXR512P .drand2XR512P toF64

/-- The result pattern without floating-point arithmetic of 44_float_conversion.md R94 (marked derived there; the constant is decision D13, log 10). -/
def Obligations.ToF32_0PatternWithoutFloats : Prop :=
  ∀ x : Word32,
    let n := x.toNat % 2 ^ 23 + 1
    let p := n.log2
    toF32_0 x = BitVec.ofNat 32 (((104 + p) <<< 23) ||| ((n <<< (23 - p)) &&& 0x7FFFFF))

/-- 44_float_conversion.md R95 (marked derived there). -/
def Obligations.ToF32_1PatternWithoutFloats : Prop :=
  ∀ x : Word32,
    let m := x.toNat % 2 ^ 23
    let p := m.log2
    toF32_1 x = if m = 0 then 0 else BitVec.ofNat 32 (((104 + p) <<< 23) ||| ((m <<< (23 - p)) &&& 0x7FFFFF))

/-- 44_float_conversion.md R96 (marked derived there). -/
def Obligations.ToF64PatternWithoutFloats : Prop :=
  ∀ x : Word64,
    let m := x.toNat % 2 ^ 52
    let p := m.log2
    toF64 x = if m = 0 then 0 else BitVec.ofNat 64 (((971 + p) <<< 52) ||| ((m <<< (52 - p)) &&& 0xFFFFFFFFFFFFF))

/-- 44_float_conversion.md R109 with the values of R94 to R96 and the formats of R93 (general knowledge by the spec's own mark, log 11). -/
def Obligations.ConvertedValuesAreExactAndInRange : Prop :=
  (∀ x : Word32, ∃ q : ℚ, ieeeValue binary32 (toF32_0 x).toNat = some q ∧
    q = ((x.toNat % 2 ^ 23 : ℕ) + 1) / 2 ^ 23 ∧ 0 < q ∧ q ≤ 1) ∧
  (∀ x : Word32, ∃ q : ℚ, ieeeValue binary32 (toF32_1 x).toNat = some q ∧
    q = (x.toNat % 2 ^ 23 : ℕ) / 2 ^ 23 ∧ 0 ≤ q ∧ q < 1) ∧
  ∀ x : Word64, ∃ q : ℚ, ieeeValue binary64 (toF64 x).toNat = some q ∧
    q = (x.toNat % 2 ^ 52 : ℕ) / 2 ^ 52 ∧ 0 ≤ q ∧ q < 1

/-- R97: only the low bits of the raw output are used. -/
def Obligations.ConverterIgnoresHighBits : Prop :=
  (∀ x y : Word32, x.extractLsb' 0 23 = y.extractLsb' 0 23 → toF32_0 x = toF32_0 y ∧ toF32_1 x = toF32_1 y) ∧
  ∀ x y : Word64, x.extractLsb' 0 52 = y.extractLsb' 0 52 → toF64 x = toF64 y

/-- 10_state.md R23: a command whose ENG field names e reads and writes S[e] (and IDX if e is WELL) and nothing else. -/
def Obligations.OnlyTheNamedEngineChanges : Prop :=
  ∀ (i : Instr) (s : State), ∃ t r, exec i s = .next t ∧ (∀ e, e ≠ i.engine → EngineEq e s t) ∧
    t.pending = s.pending.tail ∧ t.responses = s.responses ++ [r]

/-- 10_state.md R23, R30: the RESULT and the state after it are functions of the state of the engine before it and of nothing else. -/
def Obligations.ResponseDependsOnlyOnNamedEngine : Prop :=
  ∀ (i : Instr) (s s' : State), EngineEq i.engine s s' →
    ∃ t t' r, exec i s = .next t ∧ exec i s' = .next t' ∧ EngineEq i.engine t t' ∧
      t.responses = s.responses ++ [r] ∧ t'.responses = s'.responses ++ [r]

/-- The consequence R23 of 10_state.md draws, which the spec marks as derived. -/
def Obligations.CommandsOnDifferentEnginesCommute : Prop :=
  ∀ (i j : Instr) (s : State), i.engine ≠ j.engine →
    ∃ a t b u, exec i s = .next a ∧ exec j a = .next t ∧ exec j s = .next b ∧ exec i b = .next u ∧ SameBlock t u ∧
      ∃ p q, t.responses = s.responses ++ [p, q] ∧ u.responses = s.responses ++ [q, p]

/-- Width conformance (30_encoding.md R58, 41_xoshiro32.md R80). -/
def Obligations.ResultOf32BitEngineFits32Bits : Prop :=
  ∀ (i : Instr) (s : State), i.engine.width = 32 →
    ∃ t r, exec i s = .next t ∧ t.responses = s.responses ++ [r] ∧ r.result.toNat < 2 ^ 32

/-- R124 at the level of decoded commands: the other 24 commands carry no OPERAND at all (see OnlySrandReadsOperand). -/
def Obligations.OnlyWideSeedsAreRefusedAfterDecode : Prop :=
  ∀ (i : Instr) (s : State),
    let refused := ∃ v : Word64, 2 ^ 32 ≤ v.toNat ∧ (i = .srandX128SS v ∨ i = .srandX128P v ∨ i = .srandWell v)
    (refused → exec i s = .next (afterResponse 5 0 s)) ∧
    (¬ refused → ∃ t result, exec i s = .next t ∧ t.responses = s.responses ++ [{ status := 0, result := result }])
end

