-- ==== Sys2Proof/Laws/Decode.lean ====
section
/-! SUPPORT. The fields of a command word as numbers (30_encoding.md R45, R46), and the decoder once the fields are known (R50). -/

namespace Sys2Proof

theorem rsvField_eq_zero (c : BitVec 32) : rsvField c = 0 ↔ c.toNat / 256 = 0 := by
  have := c.isLt
  unfold rsvField
  rw [← BitVec.toNat_inj]
  simp only [BitVec.extractLsb'_toNat, BitVec.ofNat_eq_ofNat, BitVec.toNat_ofNat, Nat.shiftRight_eq_div_pow]
  constructor <;> intro h <;> omega

theorem opField_toNat (c : BitVec 32) : (opField c).toNat = c.toNat % 16 := by
  simp [opField, BitVec.extractLsb'_toNat]

theorem engField_toNat (c : BitVec 32) : (engField c).toNat = c.toNat / 16 % 16 := by
  simp [engField, BitVec.extractLsb'_toNat, Nat.shiftRight_eq_div_pow]

theorem operandHigh_eq_zero (o : Word64) : operandHigh o = 0 ↔ o.toNat < 2 ^ 32 := by
  have := o.isLt
  unfold operandHigh
  rw [← BitVec.toNat_inj]
  simp only [BitVec.extractLsb'_toNat, BitVec.ofNat_eq_ofNat, BitVec.toNat_ofNat, Nat.shiftRight_eq_div_pow]
  constructor <;> intro h <;> omega

/-- The verdict on a word whose reserved bits are 0 and whose fields name an operation and an engine. -/
theorem decode_of_fields {r : Request} {op : Op} {e : Engine} (hr : rsvField r.cmd = 0)
    (ho : opOfField (opField r.cmd) = some op) (he : engineOfField (engField r.cmd) = some e) :
    decode r = match instrOf op e r.operand with
      | none => .refuse .errUnsupported
      | some i => if operandIllegal op e r.operand then .refuse .errOperand else .run i := by
  simp only [decode, hr, ho, he, ne_eq, not_true_eq_false, if_false] <;> rfl

/-- The only command step (5) of R50 refuses is a SRAND to a 32-bit engine with a wide operand. -/
theorem operandIllegal_eq_true {op : Op} {e : Engine} {o : Word64} :
    operandIllegal op e o = true ↔ op = .srand ∧ e.width = 32 ∧ 2 ^ 32 ≤ o.toNat := by
  have h := operandHigh_eq_zero o
  simp only [operandIllegal, Bool.and_eq_true, beq_iff_eq, bne_iff_ne, ne_eq, h, Nat.not_lt, and_assoc]

end Sys2Proof
end

