-- ==== Sys2Proof/Laws/Float.lean ====
section
/-! SUPPORT. When the float operations are exact (44_float_conversion.md R110): a division without a remainder rounds to itself, and
magnitudes the format holds keep their value. -/

namespace Sys2Proof.Machine

theorem roundHalfEven_of_dvd {n k : Nat} (h : 2 ^ k ∣ n) : roundHalfEven n k = n / 2 ^ k := by
  have h0 : n % 2 ^ k = 0 := Nat.mod_eq_zero_of_dvd h
  have hk : 0 ≠ 2 ^ k := (Nat.two_pow_pos k).ne
  simp [roundHalfEven, h0, hk]

@[simp] theorem roundHalfEven_zero_right (n : Nat) : roundHalfEven n 0 = n := by
  simp [roundHalfEven_of_dvd]

@[simp] theorem floatOfMagnitude_zero (f : FloatFormat) (e : Nat) : floatOfMagnitude f 0 e = 0 := by
  simp [floatOfMagnitude]

@[simp] theorem floatOfScaled_zero (f : FloatFormat) (e : Nat) : floatOfScaled f 0 e = 0 := by
  simp [floatOfScaled]

/-- A subtraction of equal patterns gives +0.0 (44_float_conversion.md R110). -/
@[simp] theorem floatSub_self (f : FloatFormat) (a : Nat) : floatSub f a a = 0 := by
  simp [floatSub]

end Sys2Proof.Machine
end

