-- ==== Sys2Proof/Laws/State.lean ====
section
/-! SUPPORT. One lemma per field per update of State, each true by unfolding, so that no later proof unfolds an update. -/

namespace Sys2Proof.Machine

section SetX128ss

variable (s : State) (v : Words 32 4)

@[simp] theorem State.setX128ss_x128ss : (s.setX128ss v).x128ss = v := rfl
@[simp] theorem State.setX128ss_x128p : (s.setX128ss v).x128p = s.x128p := rfl
@[simp] theorem State.setX128ss_xr128p : (s.setX128ss v).xr128p = s.xr128p := rfl
@[simp] theorem State.setX128ss_xr256p : (s.setX128ss v).xr256p = s.xr256p := rfl
@[simp] theorem State.setX128ss_xr512p : (s.setX128ss v).xr512p = s.xr512p := rfl
@[simp] theorem State.setX128ss_well : (s.setX128ss v).well = s.well := rfl
@[simp] theorem State.setX128ss_idx : (s.setX128ss v).idx = s.idx := rfl
@[simp] theorem State.setX128ss_pending : (s.setX128ss v).pending = s.pending := rfl
@[simp] theorem State.setX128ss_responses : (s.setX128ss v).responses = s.responses := rfl

end SetX128ss

section SetX128p

variable (s : State) (v : Words 32 4)

@[simp] theorem State.setX128p_x128ss : (s.setX128p v).x128ss = s.x128ss := rfl
@[simp] theorem State.setX128p_x128p : (s.setX128p v).x128p = v := rfl
@[simp] theorem State.setX128p_xr128p : (s.setX128p v).xr128p = s.xr128p := rfl
@[simp] theorem State.setX128p_xr256p : (s.setX128p v).xr256p = s.xr256p := rfl
@[simp] theorem State.setX128p_xr512p : (s.setX128p v).xr512p = s.xr512p := rfl
@[simp] theorem State.setX128p_well : (s.setX128p v).well = s.well := rfl
@[simp] theorem State.setX128p_idx : (s.setX128p v).idx = s.idx := rfl
@[simp] theorem State.setX128p_pending : (s.setX128p v).pending = s.pending := rfl
@[simp] theorem State.setX128p_responses : (s.setX128p v).responses = s.responses := rfl

end SetX128p

section SetXr128p

variable (s : State) (v : Words 64 2)

@[simp] theorem State.setXr128p_x128ss : (s.setXr128p v).x128ss = s.x128ss := rfl
@[simp] theorem State.setXr128p_x128p : (s.setXr128p v).x128p = s.x128p := rfl
@[simp] theorem State.setXr128p_xr128p : (s.setXr128p v).xr128p = v := rfl
@[simp] theorem State.setXr128p_xr256p : (s.setXr128p v).xr256p = s.xr256p := rfl
@[simp] theorem State.setXr128p_xr512p : (s.setXr128p v).xr512p = s.xr512p := rfl
@[simp] theorem State.setXr128p_well : (s.setXr128p v).well = s.well := rfl
@[simp] theorem State.setXr128p_idx : (s.setXr128p v).idx = s.idx := rfl
@[simp] theorem State.setXr128p_pending : (s.setXr128p v).pending = s.pending := rfl
@[simp] theorem State.setXr128p_responses : (s.setXr128p v).responses = s.responses := rfl

end SetXr128p

section SetXr256p

variable (s : State) (v : Words 64 4)

@[simp] theorem State.setXr256p_x128ss : (s.setXr256p v).x128ss = s.x128ss := rfl
@[simp] theorem State.setXr256p_x128p : (s.setXr256p v).x128p = s.x128p := rfl
@[simp] theorem State.setXr256p_xr128p : (s.setXr256p v).xr128p = s.xr128p := rfl
@[simp] theorem State.setXr256p_xr256p : (s.setXr256p v).xr256p = v := rfl
@[simp] theorem State.setXr256p_xr512p : (s.setXr256p v).xr512p = s.xr512p := rfl
@[simp] theorem State.setXr256p_well : (s.setXr256p v).well = s.well := rfl
@[simp] theorem State.setXr256p_idx : (s.setXr256p v).idx = s.idx := rfl
@[simp] theorem State.setXr256p_pending : (s.setXr256p v).pending = s.pending := rfl
@[simp] theorem State.setXr256p_responses : (s.setXr256p v).responses = s.responses := rfl

end SetXr256p

section SetXr512p

variable (s : State) (v : Words 64 8)

@[simp] theorem State.setXr512p_x128ss : (s.setXr512p v).x128ss = s.x128ss := rfl
@[simp] theorem State.setXr512p_x128p : (s.setXr512p v).x128p = s.x128p := rfl
@[simp] theorem State.setXr512p_xr128p : (s.setXr512p v).xr128p = s.xr128p := rfl
@[simp] theorem State.setXr512p_xr256p : (s.setXr512p v).xr256p = s.xr256p := rfl
@[simp] theorem State.setXr512p_xr512p : (s.setXr512p v).xr512p = v := rfl
@[simp] theorem State.setXr512p_well : (s.setXr512p v).well = s.well := rfl
@[simp] theorem State.setXr512p_idx : (s.setXr512p v).idx = s.idx := rfl
@[simp] theorem State.setXr512p_pending : (s.setXr512p v).pending = s.pending := rfl
@[simp] theorem State.setXr512p_responses : (s.setXr512p v).responses = s.responses := rfl

end SetXr512p

section SetWell

variable (s : State) (v : Words 32 16) (k : BitVec 4)

@[simp] theorem State.setWell_x128ss : (s.setWell v k).x128ss = s.x128ss := rfl
@[simp] theorem State.setWell_x128p : (s.setWell v k).x128p = s.x128p := rfl
@[simp] theorem State.setWell_xr128p : (s.setWell v k).xr128p = s.xr128p := rfl
@[simp] theorem State.setWell_xr256p : (s.setWell v k).xr256p = s.xr256p := rfl
@[simp] theorem State.setWell_xr512p : (s.setWell v k).xr512p = s.xr512p := rfl
@[simp] theorem State.setWell_well : (s.setWell v k).well = v := rfl
@[simp] theorem State.setWell_idx : (s.setWell v k).idx = k := rfl
@[simp] theorem State.setWell_pending : (s.setWell v k).pending = s.pending := rfl
@[simp] theorem State.setWell_responses : (s.setWell v k).responses = s.responses := rfl

end SetWell

section Answer

variable (s : State) (st : Status) (r : Word64)

@[simp] theorem State.answer_x128ss : (s.answer st r).x128ss = s.x128ss := rfl
@[simp] theorem State.answer_x128p : (s.answer st r).x128p = s.x128p := rfl
@[simp] theorem State.answer_xr128p : (s.answer st r).xr128p = s.xr128p := rfl
@[simp] theorem State.answer_xr256p : (s.answer st r).xr256p = s.xr256p := rfl
@[simp] theorem State.answer_xr512p : (s.answer st r).xr512p = s.xr512p := rfl
@[simp] theorem State.answer_well : (s.answer st r).well = s.well := rfl
@[simp] theorem State.answer_idx : (s.answer st r).idx = s.idx := rfl
@[simp] theorem State.answer_pending : (s.answer st r).pending = s.pending.tail := rfl
@[simp] theorem State.answer_responses : (s.answer st r).responses = s.responses ++ [{ status := statusCode st, result := r }] := rfl

end Answer

section Present

variable (s : State) (q : Request)

@[simp] theorem State.present_x128ss : (s.present q).x128ss = s.x128ss := rfl
@[simp] theorem State.present_x128p : (s.present q).x128p = s.x128p := rfl
@[simp] theorem State.present_xr128p : (s.present q).xr128p = s.xr128p := rfl
@[simp] theorem State.present_xr256p : (s.present q).xr256p = s.xr256p := rfl
@[simp] theorem State.present_xr512p : (s.present q).xr512p = s.xr512p := rfl
@[simp] theorem State.present_well : (s.present q).well = s.well := rfl
@[simp] theorem State.present_idx : (s.present q).idx = s.idx := rfl
@[simp] theorem State.present_pending : (s.present q).pending = .request q :: s.pending := rfl
@[simp] theorem State.present_responses : (s.present q).responses = s.responses := rfl

end Present

section ResetEvent

variable (s : State)

@[simp] theorem State.resetEvent_x128ss : (s.resetEvent).x128ss = Config.defaultX128SS := rfl
@[simp] theorem State.resetEvent_x128p : (s.resetEvent).x128p = Config.defaultX128P := rfl
@[simp] theorem State.resetEvent_xr128p : (s.resetEvent).xr128p = Config.defaultXR128P := rfl
@[simp] theorem State.resetEvent_xr256p : (s.resetEvent).xr256p = Config.defaultXR256P := rfl
@[simp] theorem State.resetEvent_xr512p : (s.resetEvent).xr512p = Config.defaultXR512P := rfl
@[simp] theorem State.resetEvent_well : (s.resetEvent).well = Config.defaultWell := rfl
@[simp] theorem State.resetEvent_idx : (s.resetEvent).idx = Config.defaultWellIndex := rfl
@[simp] theorem State.resetEvent_pending : (s.resetEvent).pending = s.pending.tail := rfl
@[simp] theorem State.resetEvent_responses : (s.resetEvent).responses = s.responses := rfl

end ResetEvent

end Sys2Proof.Machine
end

