-- ==== Sys2Proof/Laws/Ops.lean ====
section
/-! SUPPORT. What each shared operation does, said once: the rotation, the shared update, the index step, the STATUS codes and the two
ways a request is answered. -/

namespace Sys2Proof.Machine

/-- Bit `j` of a rotation (41_xoshiro32.md R79): the low `k` bits come from the top of `x`. -/
theorem getLsbD_rotl {w : Nat} (x : BitVec w) {k : Nat} (hkw : k < w) (j : Nat) :
    (rotl x k).getLsbD j =
      if j < k then x.getLsbD (w - k + j) else (decide (j < w) && x.getLsbD (j - k)) := by
  simp only [rotl, BitVec.getLsbD_or, BitVec.getLsbD_shiftLeft, BitVec.getLsbD_ushiftRight]
  by_cases hj : j < k
  · simp [hj]
  · have : x.getLsbD (w - k + j) = false := BitVec.getLsbD_of_ge x _ (by omega)
    simp [hj, this]

@[simp] theorem rotl_zero {w : Nat} (k : Nat) : rotl (0#w) k = 0#w := by simp [rotl]

/-- The closed form of the shared update (41_xoshiro32.md R81). -/
theorem update4_eq {w : Nat} (a b : Nat) (s : Words w 4) :
    update4 a b s = #v[s[0] ^^^ s[1] ^^^ s[3], s[0] ^^^ s[1] ^^^ s[2],
      s[0] ^^^ s[2] ^^^ (s[1] <<< a), rotl (s[1] ^^^ s[3]) b] := by
  have h0 : s[0] ^^^ (s[3] ^^^ s[1]) = s[0] ^^^ s[1] ^^^ s[3] := by rw [BitVec.xor_comm s[3], BitVec.xor_assoc]
  have h1 : s[1] ^^^ (s[2] ^^^ s[0]) = s[0] ^^^ s[1] ^^^ s[2] := by
    rw [BitVec.xor_comm s[2], BitVec.xor_comm s[0] s[1], BitVec.xor_assoc]
  simp only [update4]
  rw [h0, h1, BitVec.xor_comm s[2] s[0], BitVec.xor_comm s[3] s[1]]

/-- The index goes down by one, modulo 16 (43_well.md R91). -/
theorem wellNextIndex_eq (k : BitVec 4) : wellNextIndex k = k - 1 := by
  revert k; decide

theorem statusCode_toNat_le (st : Status) : (statusCode st).toNat ≤ 5 := by cases st <;> decide

theorem statusCode_eq_zero {st : Status} : statusCode st = 0 ↔ st = .ok := by cases st <;> decide

@[simp] theorem statusCode_ok : statusCode .ok = 0 := rfl

theorem complete_next (r : Word64) (s : State) : complete r s = .next (s.answer .ok r) := rfl

theorem refuse_next (st : Status) (s : State) : refuse st s = .next (s.answer st 0) := rfl

end Sys2Proof.Machine
end

