-- ==== Sys2Proof/Laws/PerInstr.lean ====
section
/-! SUPPORT. For each command of the block: its encoding holds R49's `match = ENG * 16 + OP` (30_encoding.md R45, R49), with the numbers of
its operation and of its engine, and nothing in the reserved bits. -/

namespace Sys2Proof.Laws

/-- The command word of `i` is `ENG * 16 + OP`. -/
def CmdWord.Statement (i : Instr) : Prop :=
  (encode i).cmd.toNat = engineNumber i.engine * 16 + opNumber i.op

theorem CmdWord.initX128SS : CmdWord.Statement .initX128SS := rfl
theorem CmdWord.initX128P : CmdWord.Statement .initX128P := rfl
theorem CmdWord.initXR128P : CmdWord.Statement .initXR128P := rfl
theorem CmdWord.initXR256P : CmdWord.Statement .initXR256P := rfl
theorem CmdWord.initXR512P : CmdWord.Statement .initXR512P := rfl
theorem CmdWord.initWell : CmdWord.Statement .initWell := rfl
theorem CmdWord.srandX128SS (operand : Word64) : CmdWord.Statement (.srandX128SS operand) := rfl
theorem CmdWord.srandX128P (operand : Word64) : CmdWord.Statement (.srandX128P operand) := rfl
theorem CmdWord.srandXR128P (operand : Word64) : CmdWord.Statement (.srandXR128P operand) := rfl
theorem CmdWord.srandXR256P (operand : Word64) : CmdWord.Statement (.srandXR256P operand) := rfl
theorem CmdWord.srandXR512P (operand : Word64) : CmdWord.Statement (.srandXR512P operand) := rfl
theorem CmdWord.srandWell (operand : Word64) : CmdWord.Statement (.srandWell operand) := rfl
theorem CmdWord.randX128SS : CmdWord.Statement .randX128SS := rfl
theorem CmdWord.randX128P : CmdWord.Statement .randX128P := rfl
theorem CmdWord.randXR128P : CmdWord.Statement .randXR128P := rfl
theorem CmdWord.randXR256P : CmdWord.Statement .randXR256P := rfl
theorem CmdWord.randXR512P : CmdWord.Statement .randXR512P := rfl
theorem CmdWord.randWell : CmdWord.Statement .randWell := rfl
theorem CmdWord.frandX128SS : CmdWord.Statement .frandX128SS := rfl
theorem CmdWord.frandX128P : CmdWord.Statement .frandX128P := rfl
theorem CmdWord.frandWell : CmdWord.Statement .frandWell := rfl
theorem CmdWord.frand2X128SS : CmdWord.Statement .frand2X128SS := rfl
theorem CmdWord.frand2X128P : CmdWord.Statement .frand2X128P := rfl
theorem CmdWord.frand2Well : CmdWord.Statement .frand2Well := rfl
theorem CmdWord.drand2XR128P : CmdWord.Statement .drand2XR128P := rfl
theorem CmdWord.drand2XR256P : CmdWord.Statement .drand2XR256P := rfl
theorem CmdWord.drand2XR512P : CmdWord.Statement .drand2XR512P := rfl

end Sys2Proof.Laws
end

