-- ==== Sys2Proof/Laws/Seed.lean ====
section
/-! SUPPORT. The seed expansion word by word (40_seed_and_init.md R59). -/

namespace Sys2Proof.Machine

variable {w : Nat} (mult : BitVec w) (shift : Nat) (seed : BitVec w)

@[simp] theorem expandWord_zero : expandWord mult shift seed 0 = seed := rfl

theorem expandWord_succ (i : Nat) :
    expandWord mult shift seed (i + 1)
      = mult * (expandWord mult shift seed i ^^^ (expandWord mult shift seed i >>> shift)) + BitVec.ofNat w (i + 1) := rfl

@[simp] theorem getElem_expandWords (n i : Nat) (hi : i < n) :
    (expandWords mult shift seed n)[i] = expandWord mult shift seed i := by simp [expandWords]

@[simp] theorem getElem_expand32 (s : Word32) (n i : Nat) (hi : i < n) :
    (expand32 s n)[i] = expandWord mult32 shift32 s i := by simp [expand32]

@[simp] theorem getElem_expand64 (s : Word64) (n i : Nat) (hi : i < n) :
    (expand64 s n)[i] = expandWord mult64 shift64 s i := by simp [expand64]

end Sys2Proof.Machine
end

