-- ==== Sys2Proof/Laws/Step.lean ====
section
/-! SUPPORT. What a command and a step can do, said once. -/

namespace Sys2Proof.Machine

/-- Every command answers the request on the port and goes on: with STATUS OK, or with ERR_OPERAND and RESULT 0; before the answer it
touched neither list of the port. -/
theorem exec_answers (i : Instr) (s : State) :
    ∃ st r u, exec i s = .next (State.answer st r u) ∧ u.pending = s.pending ∧ u.responses = s.responses ∧
      (st = .ok ∨ st = .errOperand ∧ r = 0) := by
  cases i with
  | srandX128SS operand =>
    simp only [exec, execSrandX128SS]
    split
    · exact ⟨.errOperand, 0, s, rfl, rfl, rfl, .inr ⟨rfl, rfl⟩⟩
    · exact ⟨.ok, 0, _, rfl, rfl, rfl, .inl rfl⟩
  | srandX128P operand =>
    simp only [exec, execSrandX128P]
    split
    · exact ⟨.errOperand, 0, s, rfl, rfl, rfl, .inr ⟨rfl, rfl⟩⟩
    · exact ⟨.ok, 0, _, rfl, rfl, rfl, .inl rfl⟩
  | srandWell operand =>
    simp only [exec, execSrandWell]
    split
    · exact ⟨.errOperand, 0, s, rfl, rfl, rfl, .inr ⟨rfl, rfl⟩⟩
    · exact ⟨.ok, 0, _, rfl, rfl, rfl, .inl rfl⟩
  | _ => exact ⟨.ok, _, _, rfl, rfl, rfl, .inl rfl⟩

theorem step_idle {s : State} (h : s.pending = []) : step s = .next s := by
  simp [step, serveHead, h]

theorem step_reset {s : State} {rest : List HostAction} (h : s.pending = .reset :: rest) :
    step s = .next s.resetEvent := by
  simp [step, serveHead, h]

theorem step_request {s : State} {r : Request} {rest : List HostAction} (h : s.pending = .request r :: rest) :
    step s = serve r s := by
  simp [step, serveHead, h]

theorem serve_run {r : Request} {i : Instr} (h : decode r = .run i) (s : State) : serve r s = exec i s := by
  simp [serve, h]

theorem serve_refuse {r : Request} {st : Status} (h : decode r = .refuse st) (s : State) :
    serve r s = .next (s.answer st 0) := by
  simp [serve, h, refuse]

end Sys2Proof.Machine
end

