-- ==== Sys2Proof/Tests/Slice0.lean ====
section
/-! SUPPORT. Small tests, one step each. Every expected value is the spec's own: the tables of 95_test_vectors.md and the examples of the
rules; those on the R90 mixing function rest on general knowledge, as the spec marks them. -/

namespace Sys2Proof.Tests

open Sys2Proof Sys2Proof.Machine

/-- A small state: every word holds its number plus one. -/
def small : State :=
  { x128ss := #v[1, 2, 3, 4], x128p := #v[1, 2, 3, 4], xr128p := #v[1, 2], xr256p := #v[1, 2, 3, 4]
    xr512p := #v[1, 2, 3, 4, 5, 6, 7, 8], well := #v[1, 2, 3, 4, 5, 6, 7, 8, 9, 10, 11, 12, 13, 14, 15, 16]
    idx := 0, pending := [.request { cmd := 0, operand := 0 }], responses := [] }

/-- The next state, if there is one. -/
def nextOf (o : Host.Outcome State Fault Refusal) : Option State :=
  match o with
  | .next t => some t
  | .fault _ => none
  | .refused _ => none

/-- The responses of the next state. -/
def responsesAfter (o : Host.Outcome State Fault Refusal) : Option (List Response) := (nextOf o).map (·.responses)

/-- The decoder's verdict on a command word with an OPERAND of zeros. -/
def verdict (cmd : BitVec 32) : Verdict := decode { cmd := cmd, operand := 0 }

/-! ## Decode: all 27 words of 95_test_vectors.md 2.1, in binary RSV, ENG, OP -/

theorem test_decode_init :
    verdict 0b000000000000000000000000_0000_0001 = .run .initX128SS ∧
    verdict 0b000000000000000000000000_0001_0001 = .run .initX128P ∧
    verdict 0b000000000000000000000000_0010_0001 = .run .initXR128P ∧
    verdict 0b000000000000000000000000_0011_0001 = .run .initXR256P ∧
    verdict 0b000000000000000000000000_0100_0001 = .run .initXR512P ∧
    verdict 0b000000000000000000000000_0101_0001 = .run .initWell := by decide

theorem test_decode_srand :
    verdict 0b000000000000000000000000_0000_0010 = .run (.srandX128SS 0) ∧
    verdict 0b000000000000000000000000_0001_0010 = .run (.srandX128P 0) ∧
    verdict 0b000000000000000000000000_0010_0010 = .run (.srandXR128P 0) ∧
    verdict 0b000000000000000000000000_0011_0010 = .run (.srandXR256P 0) ∧
    verdict 0b000000000000000000000000_0100_0010 = .run (.srandXR512P 0) ∧
    verdict 0b000000000000000000000000_0101_0010 = .run (.srandWell 0) := by decide

theorem test_decode_rand :
    verdict 0b000000000000000000000000_0000_0011 = .run .randX128SS ∧
    verdict 0b000000000000000000000000_0001_0011 = .run .randX128P ∧
    verdict 0b000000000000000000000000_0010_0011 = .run .randXR128P ∧
    verdict 0b000000000000000000000000_0011_0011 = .run .randXR256P ∧
    verdict 0b000000000000000000000000_0100_0011 = .run .randXR512P ∧
    verdict 0b000000000000000000000000_0101_0011 = .run .randWell := by decide

theorem test_decode_frand :
    verdict 0b000000000000000000000000_0000_0100 = .run .frandX128SS ∧
    verdict 0b000000000000000000000000_0001_0100 = .run .frandX128P ∧
    verdict 0b000000000000000000000000_0101_0100 = .run .frandWell ∧
    verdict 0b000000000000000000000000_0000_0101 = .run .frand2X128SS ∧
    verdict 0b000000000000000000000000_0001_0101 = .run .frand2X128P ∧
    verdict 0b000000000000000000000000_0101_0101 = .run .frand2Well := by decide

theorem test_decode_drand2 :
    verdict 0b000000000000000000000000_0010_0110 = .run .drand2XR128P ∧
    verdict 0b000000000000000000000000_0011_0110 = .run .drand2XR256P ∧
    verdict 0b000000000000000000000000_0100_0110 = .run .drand2XR512P := by decide

theorem test_decode_srand_operand :
    decode { cmd := 0x12, operand := 0x1234 } = .run (.srandX128P 0x1234) ∧
    decode { cmd := 0x22, operand := 0xFFFFFFFF00000000 } = .run (.srandXR128P 0xFFFFFFFF00000000) ∧
    decode { cmd := 0x02, operand := 0x00000000FFFFFFFF } = .run (.srandX128SS 0xFFFFFFFF) := by decide

theorem test_decode_ignores_operand :
    decode { cmd := 0x13, operand := 0xFFFFFFFFFFFFFFFF } = .run .randX128P ∧
    decode { cmd := 0x54, operand := 0xFFFFFFFF00000000 } = .run .frandWell := by decide

/-- The refusals of 95_test_vectors.md 2.1 with an OPERAND of zeros. -/
theorem test_decode_refusals :
    verdict 0x00 = .refuse .errOpcode ∧ verdict 0x07 = .refuse .errOpcode ∧ verdict 0x0F = .refuse .errOpcode ∧
    verdict 0x50 = .refuse .errOpcode ∧ verdict 0xFF = .refuse .errOpcode ∧ verdict 0x67 = .refuse .errOpcode ∧
    verdict 0x63 = .refuse .errEngine ∧ verdict 0xF3 = .refuse .errEngine ∧ verdict 0xF1 = .refuse .errEngine ∧
    verdict 0x64 = .refuse .errEngine ∧
    verdict 0x103 = .refuse .errReservedBits ∧ verdict 0x80000013 = .refuse .errReservedBits ∧
    verdict 0xFFFFFFFF = .refuse .errReservedBits ∧ verdict 0x100 = .refuse .errReservedBits := by decide

theorem test_decode_unsupported :
    verdict 0x24 = .refuse .errUnsupported ∧ verdict 0x34 = .refuse .errUnsupported ∧
    verdict 0x44 = .refuse .errUnsupported ∧ verdict 0x25 = .refuse .errUnsupported ∧
    verdict 0x35 = .refuse .errUnsupported ∧ verdict 0x45 = .refuse .errUnsupported ∧
    verdict 0x06 = .refuse .errUnsupported ∧ verdict 0x16 = .refuse .errUnsupported ∧
    verdict 0x56 = .refuse .errUnsupported := by decide

theorem test_decode_operand_refusals :
    decode { cmd := 0x02, operand := 0x0000000100000000 } = .refuse .errOperand ∧
    decode { cmd := 0x12, operand := 0xFFFFFFFF00000000 } = .refuse .errOperand ∧
    decode { cmd := 0x52, operand := 0x8000000000000000 } = .refuse .errOperand ∧
    decode { cmd := 0x62, operand := 0x0000000100000000 } = .refuse .errEngine ∧
    decode { cmd := 0x102, operand := 0x0000000100000000 } = .refuse .errReservedBits := by decide

theorem test_table_word :
    decodeTableWord 32 0x36 = some .drand2XR256P ∧ decodeTableWord 32 0x26 = some .drand2XR128P ∧
    decodeTableWord 32 0x16 = none := by decide

/-! ## WellFormed: an ill-formed term for each check -/

theorem test_ill_formed_x128ss : (Instr.srandX128SS 0x100000000).wellFormed = false := by decide
theorem test_ill_formed_x128p : (Instr.srandX128P 0xFFFFFFFF00000000).wellFormed = false := by decide
theorem test_ill_formed_well : (Instr.srandWell 0x8000000000000000).wellFormed = false := by decide
theorem test_well_formed_largest_seed : (Instr.srandWell 0xFFFFFFFF).wellFormed = true := by decide

/-- The block holds 1668 bits: the six arrays and the 4-bit index (10_state.md R15). -/
theorem test_state_bits :
    ([Engine.x128ss, .x128p, .xr128p, .xr256p, .xr512p, .well].map fun e => e.width * e.length).sum + 4 = 1668 := by decide

/-! ## Integer laws: the examples of 41_xoshiro32.md R77 to R79 -/

theorem test_rotl :
    rotl (0x80000001#32) 7 = 0x000000C0 ∧ rotl (0x714ACB40#32) 11 = 0x565A038A ∧
    rotl (0x8000000000000000#64) 24 = 0x0000000000800000 := by decide

/-! ## Seed expansion: 95_test_vectors.md 2.2 -/

theorem test_expand32 :
    expand32 0x1234 16 = #v[0x00001234, 0x79310285, 0xCC4AA216, 0xD4C22F4C, 0x7B16F12F, 0xD760C52B, 0x06C830CE, 0x0CBB7F4D,
      0x54346E69, 0x2C9D3711, 0x69F5D2BF, 0x46F5D301, 0x51E73F0C, 0x4654D52E, 0xCDD74299, 0x32C7B0D1] := by decide

theorem test_expand32_top_bits :
    expand32 0xFFFFFFFF 4 = #v[0xFFFFFFFF, 0x4FE1DA6D, 0xEAF2F89E, 0xC1331AF4] ∧
    expand32 0xC0000000 4 = #v[0xC0000000, 0x04169C30, 0x3BD14EF2, 0xDD71A77D] := by decide

theorem test_expand64 :
    expand64 0x1234 8 = #v[0x0000000000001234, 0x8D7CBA948B1A9285, 0xCFFD63A24396AAA3, 0xDF121A72574CCA0E,
      0x0D116ADED1232A33, 0xF64DB92FA2EE8D24, 0x8F77FEFCFD9FB0FD, 0x9D7FD9850E5471B0] := by decide

theorem test_expand64_top_bits :
    expand64 0x1000000000000000 4
      = #v[0x1000000000000000, 0x4B8690692DBC7D66, 0x8B049A7C628E51AC, 0x6B0ED054287349B7] := by decide

theorem test_srand_x128ss :
    (nextOf (exec (.srandX128SS 0x80000000) small)).map (·.x128ss)
      = some #v[0x80000000, 0x580F12CB, 0x8A8683B4, 0x05885CD1] := by decide

theorem test_srand_x128ss_refused :
    nextOf (exec (.srandX128SS 0x100000000) small)
      = some { small with pending := [], responses := [{ status := 5, result := 0 }] } := by decide

theorem test_srand_x128p :
    (nextOf (exec (.srandX128P 0x1234) small)).map (fun t => (t.x128p, t.x128ss))
      = some (#v[0x00001234, 0x79310285, 0xCC4AA216, 0xD4C22F4C], #v[1, 2, 3, 4]) := by decide

theorem test_srand_xr128p :
    (nextOf (exec (.srandXR128P 0xFFFFFFFFFFFFFFFF) small)).map (·.xr128p)
      = some #v[0xFFFFFFFFFFFFFFFF, 0x4796F96D243829B1] := by decide

theorem test_srand_xr256p :
    (nextOf (exec (.srandXR256P 0) small)).map (·.xr256p)
      = some #v[0x0000000000000000, 0x0000000000000001, 0xFB8690692DBC7D67, 0xE02BFCF374F9420B] := by decide

theorem test_srand_xr512p :
    (nextOf (exec (.srandXR512P 0x0000000100000000) small)).map (·.xr512p)
      = some #v[0x0000000100000000, 0x2DBC7D6500000001, 0xDE577B1489357831, 0x8CC7D01C15DDBBAF, 0x87D4C2130EBF93E7,
        0xED2E7E7103551050, 0xF1F60E1D64955B1C, 0xB4AB1531D5593586] := by decide

theorem test_srand_well :
    (nextOf (exec (.srandWell 0) { small with idx := 7 })).map (fun t => (t.well, t.idx))
      = some (#v[0x00000000, 0x00000001, 0x6C078967, 0x714ACB41, 0x48077044, 0x93E7383E, 0xF0F54BB2, 0x141F95DC,
          0xC0ACDBD4, 0x3CB9CADC, 0xBEE0C4D6, 0x69CF1BAF, 0xBE4809B2, 0x236B027D, 0x0AF7E05F, 0x31775C8A], 0) := by decide

/-! ## INIT: 40_seed_and_init.md R71 to R76 -/

theorem test_init_loads_default :
    (nextOf (exec .initX128P small)).map (·.x128p) = some Config.defaultX128P ∧
    (nextOf (exec .initX128P small)).map (·.x128ss) = some #v[1, 2, 3, 4] := ⟨rfl, rfl⟩

theorem test_init_well_index :
    (nextOf (exec .initWell small)).map (·.idx) = some Config.defaultWellIndex ∧
    responsesAfter (exec .initWell small) = some [{ status := 0, result := 0 }] := ⟨rfl, rfl⟩

/-! ## RAND: 95_test_vectors.md 2.4 and the corner cases of R82 to R86 -/

theorem test_rand_x128ss :
    (nextOf (exec .randX128SS small)).map (fun t => (t.x128ss, t.responses))
      = some (#v[0x00000007, 0x00000000, 0x00000402, 0x00003000], [{ status := 0, result := 0x1680 }]) := by decide

theorem test_rand_x128ss_wrap :
    (stepX128SS #v[0x33333333, 0, 0, 0]).2 = 0xFFFFFFF7 ∧ (stepX128SS #v[0x80000000, 0, 0, 0x80000000]).2 = 0x240 := by decide

theorem test_rand_x128p :
    (nextOf (exec .randX128P small)).map (fun t => (t.x128p, t.responses))
      = some (#v[0x00000007, 0x00000000, 0x00000402, 0x00003000], [{ status := 0, result := 5 }]) := by decide

theorem test_rand_x128p_wrap :
    stepX128P #v[0xFFFFFFFF, 0x00400000, 0, 1] = (#v[0xFFBFFFFE, 0xFFBFFFFF, 0x7FFFFFFF, 0x00000802], 0) := by decide

theorem test_rand_xr128p :
    (nextOf (exec .randXR128P small)).map (fun t => (t.xr128p, t.responses))
      = some (#v[0x0000000001030003, 0x0000006000000000], [{ status := 0, result := 3 }]) := by decide

theorem test_rand_xr128p_wrap :
    stepXR128P #v[0xFFFFFFFFFFFFFFFF, 1] = (#v[0xFFFFFFFFFFFE0001, 0xFFFFFFDFFFFFFFFF], 0) := by decide

theorem test_rand_xr256p :
    (nextOf (exec .randXR256P small)).map (fun t => (t.xr256p, t.responses))
      = some (#v[0x0000000000000007, 0x0000000000000000, 0x0000000000040002, 0x0000C00000000000],
          [{ status := 0, result := 5 }]) := by decide

theorem test_rand_xr256p_shift_out :
    stepXR256P #v[0, 0x0000800000000000, 0, 0]
      = (#v[0x0000800000000000, 0x0000800000000000, 0x0000000000000000, 0x0000000010000000], 0) := by decide

theorem test_rand_xr512p :
    (nextOf (exec .randXR512P small)).map (fun t => (t.xr512p, t.responses))
      = some (#v[0x0000000000000006, 0x0000000000000000, 0x0000000000000002, 0x0000000000000001, 0x0000000000000001,
          0x0000000000000004, 0x000000000000100B, 0x0000000001800000], [{ status := 0, result := 4 }]) := by decide

theorem test_rand_xr512p_ones :
    stepXR512P (Vector.replicate 8 0xFFFFFFFFFFFFFFFF)
      = (#v[0, 0xFFFFFFFFFFFFFFFF, 0, 0, 0xFFFFFFFFFFFFFFFF, 0, 0x7FF, 0], 0xFFFFFFFFFFFFFFFE) := by decide

/-- The index holds for any mixing function (43_well.md R88): 0 goes to 15, 3 to 2. -/
theorem test_rand_well_index :
    (nextOf (exec .randWell small)).map (·.idx) = some 15 ∧
    (nextOf (exec .randWell { small with idx := 3 })).map (·.idx) = some 2 := ⟨rfl, rfl⟩

/-- The instance of R90, from general knowledge: the examples of R90. -/
theorem test_well_mix_r90 :
    wellMixR90 small.well 0
      = (#v[0x00060005, 2, 3, 4, 5, 6, 7, 8, 9, 10, 11, 12, 13, 14, 15, 0xA07C007A], 0xA07C007A) := by decide

theorem test_well_mix_r90_index :
    stepWellWith wellMixR90 small.well 3
      = (#v[1, 2, 0xD0140102, 0x00048008, 5, 6, 7, 8, 9, 10, 11, 12, 13, 14, 15, 16], 2, 0xD0140102) := by decide

theorem test_well_mix_r90_ones :
    (wellMixR90 (Vector.replicate 16 0xFFFFFFFF) 5).2 = 0x27E00003 ∧
    wellWord (wellMixR90 (Vector.replicate 16 0xFFFFFFFF) 5).1 5 = 0xFFE08000 := by decide

/-! ## Conversions: 95_test_vectors.md 2.5 -/

theorem test_toF32_0 :
    toF32_0 0x00000000 = 0x34000000 ∧ toF32_0 0x00000005 = 0x35400000 ∧ toF32_0 0x00400000 = 0x3F000002 ∧
    toF32_0 0x003FFFFF = 0x3F000000 ∧ toF32_0 0xFFFFFFFF = 0x3F800000 ∧ toF32_0 0x12345678 = 0x3ED159E4 := by decide

theorem test_toF32_1 :
    toF32_1 0xFF800000 = 0x00000000 ∧ toF32_1 0x00000005 = 0x35200000 ∧ toF32_1 0x00400000 = 0x3F000000 ∧
    toF32_1 0x003FFFFF = 0x3EFFFFFC ∧ toF32_1 0xFFFFFFFF = 0x3F7FFFFE ∧ toF32_1 0x12345678 = 0x3ED159E0 := by decide

theorem test_toF64 :
    toF64 0xFFF0000000000000 = 0 ∧ toF64 0x1 = 0x3CB0000000000000 ∧ toF64 0x3 = 0x3CC8000000000000 ∧
    toF64 0x0008000000000000 = 0x3FE0000000000000 ∧ toF64 0xFFFFFFFFFFFFFFFF = 0x3FEFFFFFFFFFFFFE ∧
    toF64 0x123456789ABCDEF0 = 0x3FD159E26AF37BC0 := by decide

/-! ## FRAND, FRAND2, DRAND2: 95_test_vectors.md 2.6 -/

theorem test_frand_x128ss :
    responsesAfter (exec .frandX128SS small) = some [{ status := 0, result := 0x3A340800 }] ∧
    (nextOf (exec .frandX128SS small)).map (·.x128ss) = some #v[7, 0, 0x402, 0x3000] := by decide

theorem test_frand_x128p :
    responsesAfter (exec .frandX128P { small with x128p := #v[0x00001234, 0x79310285, 0xCC4AA216, 0xD4C22F4C] })
      = some [{ status := 0, result := 0x3F048302 }] := by decide

theorem test_frand2_x128ss :
    responsesAfter (exec .frand2X128SS { small with x128ss := #v[0x00001234, 0x79310285, 0xCC4AA216, 0xD4C22F4C] })
      = some [{ status := 0, result := 0x3E4C9000 }] := by decide

theorem test_frand2_x128p :
    responsesAfter (exec .frand2X128P { small with x128p := #v[0x00001234, 0x79310285, 0xCC4AA216, 0xD4C22F4C] })
      = some [{ status := 0, result := 0x3F048300 }] := by decide

/-- The float commands of RandWELL step the index as RAND.WELL does (43_well.md R91). -/
theorem test_float_well_index :
    (nextOf (exec .frandWell small)).map (·.idx) = some 15 ∧ (nextOf (exec .frand2Well small)).map (·.idx) = some 15 := ⟨rfl, rfl⟩

theorem test_drand2_xr128p :
    responsesAfter (exec .drand2XR128P { small with xr128p := #v[0x0000000000001234, 0x8D7CBA948B1A9285] })
      = some [{ status := 0, result := 0x3FE9752916354972 }] := by decide

theorem test_drand2_xr256p :
    responsesAfter (exec .drand2XR256P { small with
      xr256p := #v[0x0000000000001234, 0x8D7CBA948B1A9285, 0xCFFD63A24396AAA3, 0xDF121A72574CCA0E] })
      = some [{ status := 0, result := 0x3FC0D392BA66E210 }] := by decide

theorem test_drand2_xr512p :
    responsesAfter (exec .drand2XR512P { small with xr512p := expand64 0x1234 8 })
      = some [{ status := 0, result := 0x3FEAC744872D79AE }] := by decide

/-! ## The port: 60_exceptions.md R122 to R129, 70_reset_and_hazards.md R134, R138 -/

/-- A legal request, an illegal one and a reset event, as the head of the port. -/
def withHead (a : HostAction) : State := { small with pending := [a] }

theorem test_step_runs_request :
    nextOf (step (withHead (.request { cmd := 0x13, operand := 0 })))
      = some { small with x128p := #v[7, 0, 0x402, 0x3000], pending := [], responses := [{ status := 0, result := 5 }] } := by decide

theorem test_step_refuses_request :
    nextOf (step (withHead (.request { cmd := 0x06, operand := 0 })))
      = some { small with pending := [], responses := [{ status := 4, result := 0 }] } := by decide

theorem test_step_reset_event : nextOf (step (withHead .reset)) = some State.reset := rfl

theorem test_step_idle : nextOf (step { small with pending := [] }) = some { small with pending := [] } := by decide

theorem test_fetch_word_runs_first :
    responsesAfter (step (State.reset.withFetchWord 32 0x00000052)) = some [{ status := 0, result := 0 }] := by decide

/-! ## Witnesses: for every statement with hypotheses, data that meet all of them together -/

/-- A state in which every word of every engine is 0. -/
def zeros : State :=
  { x128ss := Vector.replicate 4 0, x128p := Vector.replicate 4 0, xr128p := Vector.replicate 2 0
    xr256p := Vector.replicate 4 0, xr512p := Vector.replicate 8 0, well := Vector.replicate 16 0
    idx := 0, pending := [], responses := [{ status := 4, result := 0 }] }

theorem witness_DecodeOfEncodeReturnsCommand :
    (Instr.srandWell 0xFFFFFFFF).wellFormed = true ∧ Instr.randX128P.wellFormed = true := by decide

theorem witness_DecodedCommandIsTheEncodedOne :
    decode { cmd := 0x42, operand := 0xFFFFFFFFFFFFFFFF } = .run (.srandXR512P 0xFFFFFFFFFFFFFFFF) ∧
    decode { cmd := 0x54, operand := 7 } = .run .frandWell := by decide

/-- One request for each of the six clauses, at the edge of its range. -/
theorem witness_DecoderMakesSixChecksInOrder :
    ((0x100#32).toNat / 256 ≠ 0) ∧
    ((0x57#32).toNat / 256 = 0 ∧ 7 ≤ (0x57#32).toNat % 16) ∧
    ((0x66#32).toNat / 256 = 0 ∧ (0x66#32).toNat % 16 ≤ 6 ∧ 6 ≤ (0x66#32).toNat / 16 % 16) ∧
    ((0x44#32).toNat % 16 = 4 ∧ (0x44#32).toNat / 16 % 16 = 4) ∧
    ((0x52#32).toNat % 16 = 2 ∧ (0x52#32).toNat / 16 % 16 = 5 ∧ 2 ^ 32 ≤ (0x100000000#64).toNat) ∧
    ((0x52#32).toNat % 16 = 2 ∧ (0x52#32).toNat / 16 % 16 = 5 ∧ ¬ 2 ^ 32 ≤ (0xFFFFFFFF#64).toNat) := by decide

theorem witness_ReservedBitsAreRefused :
    (0x00000100#32).getLsbD 8 = true ∧ (0x80000013#32).getLsbD 31 = true := by decide

theorem witness_ReservedOpAndEngAreRefused :
    (15 < 16 ∧ (15 = 0 ∨ 7 ≤ 15)) ∧ (1 ≤ 6 ∧ 6 ≤ 6 ∧ 6 ≤ 15 ∧ 15 < 16) := by decide

theorem witness_AbsentPairsAreUnsupported :
    (0x56 : BitVec 32) ∈ ([0x24, 0x34, 0x44, 0x25, 0x35, 0x45, 0x06, 0x16, 0x56] : List (BitVec 32)) := by decide

theorem witness_OnlySrandReadsOperand : (0x13#32).toNat % 16 ≠ 2 := by decide

theorem witness_RenamedLinesAssembleToTheirCommands :
    Engine.well.width = 32 ∧ (0xFFFFFFFF#64).toNat < 2 ^ 32 := by decide

theorem witness_StepRunsDecodedCommand :
    (withHead (.request { cmd := 0x33, operand := 0 })).pending = .request { cmd := 0x33, operand := 0 } :: [] ∧
    decode { cmd := 0x33, operand := 0 } = .run .randXR256P := by decide

theorem witness_PresentedWordIsTheNextCommand : decodeTableWord 32 0x53 = some .randWell := by decide

theorem witness_RefusedRequestChangesNoState :
    (withHead (.request { cmd := 0, operand := 0 })).pending = .request { cmd := 0, operand := 0 } :: [] ∧
    decode { cmd := 0, operand := 0 } = .refuse .errOpcode := by decide

theorem witness_ResetEventLoadsDefaults : (withHead .reset).pending = .reset :: [] := rfl

theorem witness_ResetStateIsDefault : Instr.initWell.op = .init := rfl

theorem witness_ResetEqualsSixInitsInAnyOrder :
    [Instr.initWell, .initX128P, .initXR128P, .initXR256P, .initXR512P, .initX128SS].Perm
      [.initX128SS, .initX128P, .initXR128P, .initXR256P, .initXR512P, .initWell] := by decide

theorem witness_IdleBlockHoldsItsState : zeros.pending = [] := rfl

theorem witness_EachRequestGetsOneResponse : ∃ t, step small = .next t := ⟨_, rfl⟩

theorem witness_StepKeepsResponsesLegal :
    ResponsesLegal zeros ∧ ∃ t, step (zeros.present { cmd := 0x13, operand := 0 }) = .next t := by
  refine ⟨fun r hr => ?_, _, rfl⟩
  simp only [zeros, List.mem_singleton] at hr
  subst hr
  exact ⟨by decide, fun _ => rfl⟩

theorem witness_SrandExpandsSeed : (0xFFFFFFFF#64).toNat < 2 ^ 32 ∧ 2 ^ 32 ≤ (0x100000000#64).toNat := by decide

theorem witness_RebuildDiscardsPriorState :
    (Instr.srandX128SS 5).op = .srand ∧ (Instr.srandX128SS 5).wellFormed = true ∧
    Instr.initX128P.op = .init ∧ Instr.initX128P.wellFormed = true := by decide

theorem witness_NoSeedGivesAllZeroState :
    (Instr.srandXR128P 0).op = .srand ∧ (Instr.srandXR128P 0).wellFormed = true := by decide

theorem witness_ShorterExpansionsBeginLongerOnes : (0x1234#64).toNat < 2 ^ 32 := by decide

theorem witness_WellIndexWalksDown :
    ∀ i ∈ [Instr.randWell, .frandWell, .frand2Well], i = .randWell ∨ i = .frandWell ∨ i = .frand2Well := by decide

theorem witness_PublishedWellMixWritesTwoWords : (1 : BitVec 4) ≠ 0 ∧ (1 : BitVec 4) ≠ 0 + 15 := by decide

theorem witness_Xoshiro128EnginesShareTheirUpdate : small.x128ss = small.x128p := rfl

theorem witness_ZeroArrayIsFixedPoint :
    Instr.frandX128P.engine ≠ .well ∧ Instr.frandX128P.op ≠ .init ∧ Instr.frandX128P.op ≠ .srand ∧
    EngineZero Instr.frandX128P.engine zeros := ⟨by decide, by decide, by decide, rfl⟩

theorem witness_RotlMovesEveryBit : 0 < 11 ∧ 11 < 32 ∧ 31 < 32 := by decide

theorem witness_ConverterIgnoresHighBits :
    (0xFF800005#32).extractLsb' 0 23 = (5#32).extractLsb' 0 23 ∧
    (0xFFF0000000000005#64).extractLsb' 0 52 = (5#64).extractLsb' 0 52 := by decide

theorem witness_OnlyTheNamedEngineChanges : Engine.well ≠ Instr.randX128P.engine := by decide

theorem witness_ResponseDependsOnlyOnNamedEngine :
    EngineEq Instr.randX128P.engine small { small with x128ss := Vector.replicate 4 0 } := rfl

theorem witness_CommandsOnDifferentEnginesCommute : Instr.randX128SS.engine ≠ Instr.frand2X128P.engine := by decide

theorem witness_ResultOf32BitEngineFits32Bits : Instr.frandWell.engine.width = 32 := rfl

theorem witness_OnlyWideSeedsAreRefusedAfterDecode :
    (∃ v : Word64, 2 ^ 32 ≤ v.toNat ∧
      (Instr.srandWell 0x100000000 = .srandX128SS v ∨ Instr.srandWell 0x100000000 = .srandX128P v ∨
        Instr.srandWell 0x100000000 = .srandWell v)) ∧
    ¬ ∃ v : Word64, 2 ^ 32 ≤ v.toNat ∧
      (Instr.randX128P = .srandX128SS v ∨ Instr.randX128P = .srandX128P v ∨ Instr.randX128P = .srandWell v) := by
  refine ⟨⟨0x100000000, by decide, .inr (.inr rfl)⟩, ?_⟩
  rintro ⟨v, -, h | h | h⟩ <;> cases h

/-! ## The per-command families are about every command: one named use -/

theorem test_cmd_word : Laws.CmdWord.Statement .drand2XR512P := Laws.CmdWord.drand2XR512P

end Sys2Proof.Tests
end

/-! PROOFS. Locality of the engines (10_state.md R23, R30, R31, R32). One operation, `s.withEngine e u`, puts into `s` what engine
`e` holds in `u`. Every command is such a write followed by an answer, and neither what it writes nor what it answers depends on the
state around its engine (`exec_local`); the noninterference statements are read off from that. -/

namespace Sys2Proof.Machine

/-! ## Agreement on an engine -/

@[refl, simp] theorem EngineEq.refl (e : Engine) (s : State) : EngineEq e s s := by
  cases e with
  | well => exact ⟨rfl, rfl⟩
  | _ => rfl

theorem EngineEq.comm {e : Engine} {s t : State} : EngineEq e s t ↔ EngineEq e t s := by
  cases e with
  | well => exact and_congr eq_comm eq_comm
  | _ => exact eq_comm

/-- Answering a request touches no engine. -/
@[simp] theorem engineEq_answer_left {e : Engine} {s t : State} {st : Status} {r : Word64} :
    EngineEq e (s.answer st r) t ↔ EngineEq e s t := by
  cases e <;> rfl

@[simp] theorem engineEq_answer_right {e : Engine} {s t : State} {st : Status} {r : Word64} :
    EngineEq e s (t.answer st r) ↔ EngineEq e s t := by
  rw [EngineEq.comm, engineEq_answer_left, EngineEq.comm]

/-! ## Putting one engine of a state into another state -/

/-- The state `s` with everything engine `e` owns (10_state.md R23) taken from `u`. -/
def State.withEngine (s : State) (e : Engine) (u : State) : State :=
  match e with
  | .x128ss => s.setX128ss u.x128ss
  | .x128p => s.setX128p u.x128p
  | .xr128p => s.setXr128p u.xr128p
  | .xr256p => s.setXr256p u.xr256p
  | .xr512p => s.setXr512p u.xr512p
  | .well => s.setWell u.well u.idx

@[simp] theorem State.withEngine_pending (s : State) (e : Engine) (u : State) :
    (s.withEngine e u).pending = s.pending := by
  cases e <;> rfl

@[simp] theorem State.withEngine_responses (s : State) (e : Engine) (u : State) :
    (s.withEngine e u).responses = s.responses := by
  cases e <;> rfl

/-- Taking over an engine on which the two states agree changes nothing. -/
theorem State.withEngine_eq_self {s : State} {e : Engine} {u : State} (h : EngineEq e u s) : s.withEngine e u = s := by
  cases e with
  | well =>
    obtain ⟨hw, hi⟩ := h
    simp only [withEngine, hw, hi]
    rfl
  | _ =>
    simp only [EngineEq] at h
    simp only [withEngine, h]
    rfl

/-- On engine `e` the state agrees with the one the engine came from. -/
@[simp] theorem engineEq_withEngine_left {e : Engine} {s u t : State} :
    EngineEq e (s.withEngine e u) t ↔ EngineEq e u t := by
  cases e <;> rfl

@[simp] theorem engineEq_withEngine_right {e : Engine} {s u t : State} :
    EngineEq e t (s.withEngine e u) ↔ EngineEq e t u := by
  rw [EngineEq.comm, engineEq_withEngine_left, EngineEq.comm]

/-- On any other engine it agrees with what it was. -/
theorem engineEq_withEngine_left_of_ne {e f : Engine} {s u t : State} (h : e ≠ f) :
    EngineEq e (s.withEngine f u) t ↔ EngineEq e s t := by
  revert h
  cases f <;> cases e <;> simp [EngineEq, State.withEngine]

theorem engineEq_withEngine_right_of_ne {e f : Engine} {s u t : State} (h : e ≠ f) :
    EngineEq e t (s.withEngine f u) ↔ EngineEq e t s := by
  rw [EngineEq.comm, engineEq_withEngine_left_of_ne h, EngineEq.comm]

/-- Writes to two different engines commute, whatever answers are given on the way. -/
theorem sameBlock_withEngine_comm {e f : Engine} (h : e ≠ f) (s u v : State) (st st' : Status) (r r' : Word64) :
    SameBlock (((s.withEngine e u).answer st r).withEngine f v) (((s.withEngine f v).answer st' r').withEngine e u) := by
  intro g
  by_cases hf : g = f
  · subst hf
    simp [engineEq_withEngine_right_of_ne h.symm]
  by_cases he : g = e
  · subst he
    simp [engineEq_withEngine_left_of_ne h]
  · simp [engineEq_withEngine_left_of_ne, engineEq_withEngine_right_of_ne, he, hf]

/-! ## What a command can do -/

/-- A command reads and writes the engine it names and nothing else: with that engine taken from `s`, it gives the same answer and
writes the same contents in every state `c` around it. -/
theorem exec_withEngine (i : Instr) (s : State) :
    ∃ (st : Status) (r : Word64) (u : State), exec i s = .next (u.answer st r) ∧
      ∀ c : State, exec i (c.withEngine i.engine s) = .next ((c.withEngine i.engine u).answer st r) := by
  cases i with
  | srandX128SS operand | srandX128P operand | srandWell operand =>
    simp only [exec, execSrandX128SS, execSrandX128P, execSrandWell]
    split
    · exact ⟨.errOperand, 0, s, rfl, fun _ => rfl⟩
    · exact ⟨.ok, 0, _, rfl, fun _ => rfl⟩
  | _ => exact ⟨.ok, _, _, rfl, fun _ => rfl⟩

/-- The same for every state that agrees with `s` on the engine, `s` itself among them. -/
theorem exec_local (i : Instr) (s : State) :
    ∃ (st : Status) (r : Word64) (u : State), ∀ c : State, EngineEq i.engine s c →
      exec i c = .next ((c.withEngine i.engine u).answer st r) := by
  obtain ⟨st, r, u, -, hu⟩ := exec_withEngine i s
  refine ⟨st, r, u, fun c hc => ?_⟩
  have h := hu c
  rwa [State.withEngine_eq_self hc] at h

/-- Settles O49: the next state is `s` with one engine written, and answered. -/
theorem onlyTheNamedEngineChanges : Obligations.OnlyTheNamedEngineChanges := by
  intro i s
  obtain ⟨st, r, u, hu⟩ := exec_local i s
  refine ⟨_, ⟨statusCode st, r⟩, hu s (.refl _ s), fun e he => ?_, by simp, by simp⟩
  simp [engineEq_withEngine_right_of_ne he]

/-- Settles O50: both states take over the same engine contents and give the same answer. -/
theorem responseDependsOnlyOnNamedEngine : Obligations.ResponseDependsOnlyOnNamedEngine := by
  intro i s s' h
  obtain ⟨st, r, u, hu⟩ := exec_local i s
  exact ⟨_, _, ⟨statusCode st, r⟩, hu s (.refl _ s), hu s' h, by simp, by simp, by simp⟩

/-- Settles O51: each command finds its own engine untouched by the other, so it makes the same write in either order. -/
theorem commandsOnDifferentEnginesCommute : Obligations.CommandsOnDifferentEnginesCommute := by
  intro i j s hij
  obtain ⟨st, r, u, hi⟩ := exec_local i s
  obtain ⟨st', r', v, hj⟩ := exec_local j s
  have hja : EngineEq j.engine s ((s.withEngine i.engine u).answer st r) := by
    simp [engineEq_withEngine_right_of_ne hij.symm]
  have hib : EngineEq i.engine s ((s.withEngine j.engine v).answer st' r') := by
    simp [engineEq_withEngine_right_of_ne hij]
  refine ⟨_, _, _, _, hi s (.refl _ s), hj _ hja, hj s (.refl _ s), hi _ hib, fun g => ?_,
    ⟨statusCode st, r⟩, ⟨statusCode st', r'⟩, by simp, by simp⟩
  rw [engineEq_answer_left, engineEq_answer_right]
  exact sameBlock_withEngine_comm hij s u v st st' r r' g

/-! ## Reset and INIT -/

/-- Settles O15: INIT of each engine loads the constants that reset loads. -/
theorem resetStateIsDefault : Obligations.ResetStateIsDefault := by
  refine ⟨⟨rfl, rfl, rfl, rfl, rfl, rfl, rfl⟩, fun i s h => ?_⟩
  cases i with
  | initX128SS | initX128P | initXR128P | initXR256P | initXR512P => exact ⟨_, rfl, rfl⟩
  | initWell => exact ⟨_, rfl, rfl, rfl⟩
  | _ => cases h

/-! ## The all-zero array (10_state.md R32) -/

@[simp] theorem stepX128SS_zero : stepX128SS (Vector.replicate 4 0#32) = (Vector.replicate 4 0#32, 0#32) := by decide

@[simp] theorem stepX128P_zero : stepX128P (Vector.replicate 4 0#32) = (Vector.replicate 4 0#32, 0#32) := by decide

@[simp] theorem stepXR128P_zero : stepXR128P (Vector.replicate 2 0#64) = (Vector.replicate 2 0#64, 0#64) := by decide

@[simp] theorem stepXR256P_zero : stepXR256P (Vector.replicate 4 0#64) = (Vector.replicate 4 0#64, 0#64) := by decide

@[simp] theorem stepXR512P_zero : stepXR512P (Vector.replicate 8 0#64) = (Vector.replicate 8 0#64, 0#64) := by decide

@[simp] theorem toF32_0_zero : toF32_0 0#32 = 0x34000000#32 := by decide

@[simp] theorem toF32_1_zero : toF32_1 0#32 = 0#32 := by decide

@[simp] theorem toF64_zero : toF64 0#64 = 0#64 := by decide

/-- Settles O39: the step of each engine maps the all-zero array to itself and to the raw output 0, which the float commands then
convert. -/
theorem zeroArrayIsFixedPoint : Obligations.ZeroArrayIsFixedPoint := by
  intro i s hwell hinit hsrand hz
  cases i with
  | initX128SS | initX128P | initXR128P | initXR256P | initXR512P => exact absurd rfl hinit
  | srandX128SS | srandX128P | srandXR128P | srandXR256P | srandXR512P => exact absurd rfl hsrand
  | initWell | srandWell | randWell | frandWell | frand2Well => exact absurd rfl hwell
  | _ =>
    simp only [Instr.engine, EngineZero] at hz
    refine ⟨_, rfl, ?_, ?_⟩
    · simp [Instr.engine, EngineZero, hz]
    · simp [Instr.op, zext64, hz]

end Sys2Proof.Machine

/-! PROOFS. The encoding (30_encoding.md R44 to R57). The fields of a command word are read back as numbers, so one equation, the
word is `ENG * 16 + OP`, stands for the three field checks at once (`cmd_eq_iff`), and the command those numbers name is characterised by its
operation, its engine and its OPERAND (`instrOf_eq_some`). The decoder is then exactly the inverse of the encoder on well-formed commands
(`decode_eq_run`), and each refusal of R50 is a lemma about the same numbers. -/

namespace Sys2Proof

/-! ## The numbers of operations and engines -/

theorem opOfField_eq_some {f : BitVec 4} {op : Op} : opOfField f = some op ↔ f.toNat = opNumber op := by
  revert f
  cases op <;> decide

theorem opOfField_eq_none {f : BitVec 4} : opOfField f = none ↔ f.toNat = 0 ∨ 7 ≤ f.toNat := by
  revert f
  decide

theorem engineOfField_eq_some {f : BitVec 4} {e : Engine} : engineOfField f = some e ↔ f.toNat = engineNumber e := by
  revert f
  cases e <;> decide

theorem engineOfField_eq_none {f : BitVec 4} : engineOfField f = none ↔ 6 ≤ f.toNat := by
  revert f
  decide

theorem exists_opNumber {n : Nat} (h1 : 1 ≤ n) (h6 : n ≤ 6) : ∃ op, opNumber op = n := by
  cases h : opOfField (BitVec.ofNat 4 n) with
  | none =>
    rw [opOfField_eq_none, BitVec.toNat_ofNat] at h
    omega
  | some op =>
    rw [opOfField_eq_some, BitVec.toNat_ofNat] at h
    exact ⟨op, by omega⟩

theorem exists_engineNumber {n : Nat} (h5 : n ≤ 5) : ∃ e, engineNumber e = n := by
  cases h : engineOfField (BitVec.ofNat 4 n) with
  | none =>
    rw [engineOfField_eq_none, BitVec.toNat_ofNat] at h
    omega
  | some e =>
    rw [engineOfField_eq_some, BitVec.toNat_ofNat] at h
    exact ⟨e, by omega⟩

theorem opNumber_bounds (op : Op) : 1 ≤ opNumber op ∧ opNumber op ≤ 6 := by cases op <;> decide

theorem engineNumber_le (e : Engine) : engineNumber e ≤ 5 := by cases e <;> decide

theorem opNumber_eq_two {op : Op} : opNumber op = 2 ↔ op = .srand := by cases op <;> decide

/-- The 32-bit engines by number (00_scope.md R9, 30_encoding.md R48). -/
theorem width_eq_32 {e : Engine} : e.width = 32 ↔ engineNumber e = 0 ∨ engineNumber e = 1 ∨ engineNumber e = 5 := by
  cases e <;> decide

/-- A word is `ENG * 16 + OP` exactly when its reserved bits are 0 and its two fields hold these numbers (30_encoding.md R45). -/
theorem cmd_eq_iff {c : BitVec 32} {op : Op} {e : Engine} :
    c.toNat = engineNumber e * 16 + opNumber op ↔
      c.toNat / 256 = 0 ∧ c.toNat % 16 = opNumber op ∧ c.toNat / 16 % 16 = engineNumber e := by
  have := opNumber_bounds op
  have := engineNumber_le e
  omega

theorem exists_op_engine {c : BitVec 32} (hr : c.toNat / 256 = 0) (h1 : 1 ≤ c.toNat % 16) (h6 : c.toNat % 16 ≤ 6)
    (h5 : c.toNat / 16 % 16 ≤ 5) : ∃ op e, c.toNat = engineNumber e * 16 + opNumber op := by
  obtain ⟨op, hop⟩ := exists_opNumber h1 h6
  obtain ⟨e, he⟩ := exists_engineNumber h5
  exact ⟨op, e, cmd_eq_iff.mpr ⟨hr, hop.symm, he.symm⟩⟩

/-- The four kinds of command word: the first three are the refusals of R51 and R52, the last names an operation and an engine. -/
theorem cmd_cases (c : BitVec 32) :
    c.toNat / 256 ≠ 0 ∨
    (c.toNat / 256 = 0 ∧ (c.toNat % 16 = 0 ∨ 7 ≤ c.toNat % 16)) ∨
    (c.toNat / 256 = 0 ∧ 1 ≤ c.toNat % 16 ∧ c.toNat % 16 ≤ 6 ∧ 6 ≤ c.toNat / 16 % 16) ∨
    ∃ op e, c.toNat = engineNumber e * 16 + opNumber op := by
  by_cases hlegal : c.toNat / 256 = 0 ∧ 1 ≤ c.toNat % 16 ∧ c.toNat % 16 ≤ 6 ∧ c.toNat / 16 % 16 ≤ 5
  · obtain ⟨hr, h1, h6, h5⟩ := hlegal
    exact .inr (.inr (.inr (exists_op_engine hr h1 h6 h5)))
  · omega

/-! ## Commands, their operation, engine and OPERAND -/

/-- R49's table, read as numbers, for every command. -/
theorem cmdWord (i : Instr) : (encode i).cmd.toNat = engineNumber i.engine * 16 + opNumber i.op := by
  cases i <;> rfl

/-- A command that takes no OPERAND is encoded with 0 there (30_encoding.md R56). -/
theorem encode_operand_of_ne_srand {i : Instr} (h : i.op ≠ .srand) : (encode i).operand = 0 := by
  cases i with
  | srandX128SS | srandX128P | srandXR128P | srandXR256P | srandXR512P | srandWell => exact absurd rfl h
  | _ => rfl

/-- The command of a pair is the one with this operation, this engine and, for SRAND, this OPERAND. -/
theorem instrOf_eq_some {op : Op} {e : Engine} {o : Word64} {i : Instr} :
    instrOf op e o = some i ↔ i.op = op ∧ i.engine = e ∧ (op = .srand → (encode i).operand = o) := by
  constructor
  · intro h
    cases op with
    | srand => cases e <;> cases h <;> exact ⟨rfl, rfl, fun _ => rfl⟩
    | _ => cases e <;> cases h <;> exact ⟨rfl, rfl, nofun⟩
  · rintro ⟨rfl, rfl, ho⟩
    cases i with
    | srandX128SS | srandX128P | srandXR128P | srandXR256P | srandXR512P | srandWell =>
      rw [← ho rfl]
      rfl
    | _ => rfl

/-- OP and ENG of the nine pairs that do not exist (30_encoding.md R53). -/
def AbsentPair (op eng : Nat) : Prop :=
  ((op = 4 ∨ op = 5) ∧ (eng = 2 ∨ eng = 3 ∨ eng = 4)) ∨ (op = 6 ∧ (eng = 0 ∨ eng = 1 ∨ eng = 5))

theorem instrOf_eq_none {op : Op} {e : Engine} {o : Word64} :
    instrOf op e o = none ↔ AbsentPair (opNumber op) (engineNumber e) := by
  cases op <;> cases e <;> simp [instrOf, AbsentPair, opNumber, engineNumber]

theorem instrOf_operand_irrel {op : Op} (h : op ≠ .srand) (e : Engine) (a b : Word64) :
    instrOf op e a = instrOf op e b := by
  cases op with
  | srand => exact absurd rfl h
  | _ => cases e <;> rfl

theorem operandIllegal_of_ne_srand {op : Op} (h : op ≠ .srand) (e : Engine) (o : Word64) :
    operandIllegal op e o = false := by
  simp [operandIllegal, h]

/-- What step (5) of R50 refuses of a command is its ill-formed seeds (30_encoding.md R46). -/
theorem operandIllegal_eq_not_wellFormed {i : Instr} {o : Word64} (ho : i.op = .srand → (encode i).operand = o) :
    operandIllegal i.op i.engine o = !i.wellFormed := by
  cases i with
  | srandX128SS | srandX128P | srandXR128P | srandXR256P | srandXR512P | srandWell =>
    obtain rfl := ho rfl
    rw [Bool.eq_iff_iff, operandIllegal_eq_true]
    simp [Instr.wellFormed, seedFits32, Instr.op, Instr.engine, Engine.width, encode]
  | _ => rfl

/-! ## The verdicts of the decoder -/

section Verdicts

variable {r : Request} {op : Op} {e : Engine} {i : Instr}

/-- Check (1) of R50. -/
theorem decode_reserved (h : r.cmd.toNat / 256 ≠ 0) : decode r = .refuse .errReservedBits := by
  have hr : rsvField r.cmd ≠ 0 := mt (rsvField_eq_zero _).mp h
  rw [decode, if_pos hr]

/-- Check (2) of R50. -/
theorem decode_opcode (h : r.cmd.toNat / 256 = 0) (ho : r.cmd.toNat % 16 = 0 ∨ 7 ≤ r.cmd.toNat % 16) :
    decode r = .refuse .errOpcode := by
  rw [← opField_toNat, ← opOfField_eq_none] at ho
  simp [decode, (rsvField_eq_zero _).mpr h, ho]

/-- Check (3) of R50. -/
theorem decode_engine (h : r.cmd.toNat / 256 = 0) (h1 : 1 ≤ r.cmd.toNat % 16) (h6 : r.cmd.toNat % 16 ≤ 6)
    (he : 6 ≤ r.cmd.toNat / 16 % 16) : decode r = .refuse .errEngine := by
  obtain ⟨op, hop⟩ := exists_opNumber h1 h6
  rw [← engField_toNat, ← engineOfField_eq_none] at he
  have ho : opOfField (opField r.cmd) = some op := opOfField_eq_some.mpr (by rw [opField_toNat, hop])
  simp [decode, (rsvField_eq_zero _).mpr h, ho, he]

/-- The field checks of a word that names an operation and an engine. -/
theorem fields_iff :
    (rsvField r.cmd = 0 ∧ opOfField (opField r.cmd) = some op ∧ engineOfField (engField r.cmd) = some e) ↔
      r.cmd.toNat = engineNumber e * 16 + opNumber op := by
  rw [rsvField_eq_zero, opOfField_eq_some, engineOfField_eq_some, opField_toNat, engField_toNat, cmd_eq_iff]

/-- Check (4) of R50. -/
theorem decode_unsupported (hc : r.cmd.toNat = engineNumber e * 16 + opNumber op)
    (hi : instrOf op e r.operand = none) : decode r = .refuse .errUnsupported := by
  obtain ⟨hr, ho, he⟩ := fields_iff.mpr hc
  rw [decode_of_fields hr ho he, hi]

/-- Checks (5) and (6) of R50. -/
theorem decode_of_instrOf (hc : r.cmd.toNat = engineNumber e * 16 + opNumber op)
    (hi : instrOf op e r.operand = some i) :
    decode r = if operandIllegal op e r.operand then .refuse .errOperand else .run i := by
  obtain ⟨hr, ho, he⟩ := fields_iff.mpr hc
  rw [decode_of_fields hr ho he, hi]

/-- The decoder runs `i` on the encodings of `i` and on nothing else; only SRAND fixes the OPERAND. -/
theorem decode_eq_run :
    decode r = .run i ↔
      i.wellFormed = true ∧ (encode i).cmd = r.cmd ∧ (i.op = .srand → (encode i).operand = r.operand) := by
  constructor
  · intro h
    obtain hr | ⟨hr, ho⟩ | ⟨hr, h1, h6, he⟩ | ⟨op, e, hc⟩ := cmd_cases r.cmd
    · simp [decode_reserved hr] at h
    · simp [decode_opcode hr ho] at h
    · simp [decode_engine hr h1 h6 he] at h
    cases hj : instrOf op e r.operand with
    | none => simp [decode_unsupported hc hj] at h
    | some j =>
      obtain ⟨rfl, rfl, ho⟩ := instrOf_eq_some.mp hj
      rw [decode_of_instrOf hc hj, operandIllegal_eq_not_wellFormed ho] at h
      cases hw : j.wellFormed with
      | false => simp [hw] at h
      | true =>
        obtain rfl : j = i := by simpa [hw] using h
        exact ⟨hw, BitVec.eq_of_toNat_eq (by rw [cmdWord, hc]), ho⟩
  · rintro ⟨hw, hc, ho⟩
    have hi : instrOf i.op i.engine r.operand = some i := instrOf_eq_some.mpr ⟨rfl, rfl, ho⟩
    rw [decode_of_instrOf (hc ▸ cmdWord i) hi, operandIllegal_eq_not_wellFormed ho]
    simp [hw]

theorem decode_encode (h : i.wellFormed = true) : decode (encode i) = .run i :=
  decode_eq_run.mpr ⟨h, rfl, fun _ => rfl⟩

end Verdicts

/-- Settles O1: a well-formed command's own encoding meets the three conditions of `decode_eq_run`. -/
theorem decodeOfEncodeReturnsCommand : Obligations.DecodeOfEncodeReturnsCommand :=
  fun _ h => decode_encode h

/-- Settles O2: the same conditions, read off from the verdict. -/
theorem decodedCommandIsTheEncodedOne : Obligations.DecodedCommandIsTheEncodedOne := by
  intro r i h
  obtain ⟨hw, hc, ho⟩ := decode_eq_run.mp h
  refine ⟨hw, hc, ?_⟩
  split
  case isTrue hs => exact ho hs
  case isFalse hs => exact encode_operand_of_ne_srand hs

/-! ## The 27 legal words -/

/-- The 27 commands, those of SRAND with the seed 0. -/
def commands : List Instr :=
  [.initX128SS, .initX128P, .initXR128P, .initXR256P, .initXR512P, .initWell,
    .srandX128SS 0, .srandX128P 0, .srandXR128P 0, .srandXR256P 0, .srandXR512P 0, .srandWell 0,
    .randX128SS, .randX128P, .randXR128P, .randXR256P, .randXR512P, .randWell,
    .frandX128SS, .frandX128P, .frandWell, .frand2X128SS, .frand2X128P, .frand2Well,
    .drand2XR128P, .drand2XR256P, .drand2XR512P]

theorem mem_commands {i : Instr} : i ∈ commands ↔ (encode i).operand = 0 := by
  cases i <;> simp [commands, encode]

theorem wellFormed_of_mem_commands : ∀ i ∈ commands, i.wellFormed = true := by decide

theorem mem_commandWords {cmd : BitVec 32} :
    cmd ∈ commands.map (fun i => (encode i).cmd) ↔ ∃ i, decode { cmd := cmd, operand := 0 } = .run i := by
  simp only [List.mem_map, decode_eq_run]
  refine exists_congr fun i => ⟨fun ⟨hi, hc⟩ => ?_, fun ⟨_, hc, ho⟩ => ⟨mem_commands.mpr ?_, hc⟩⟩
  · exact ⟨wellFormed_of_mem_commands i hi, hc, fun _ => mem_commands.mp hi⟩
  · by_cases hs : i.op = .srand
    · exact ho hs
    · exact encode_operand_of_ne_srand hs

/-- Settles O4: one verdict lemma per check, and the words of the 27 commands. -/
theorem decoderMakesSixChecksInOrder : Obligations.DecoderMakesSixChecksInOrder := by
  refine ⟨fun r => ?_, commands.map (fun i => (encode i).cmd), rfl, by decide, fun _ => mem_commandWords⟩
  intro c op eng absent wideSeed
  have habsent {o e} (hc : r.cmd.toNat = engineNumber e * 16 + opNumber o) : instrOf o e r.operand = none ↔ absent := by
    obtain ⟨-, ho, he⟩ := cmd_eq_iff.mp hc
    rw [instrOf_eq_none, ← ho, ← he]
    rfl
  have hwide {o e} (hc : r.cmd.toNat = engineNumber e * 16 + opNumber o) :
      operandIllegal o e r.operand = true ↔ wideSeed := by
    obtain ⟨-, ho, he⟩ := cmd_eq_iff.mp hc
    rw [operandIllegal_eq_true, ← opNumber_eq_two, width_eq_32, ← ho, ← he]
  refine ⟨decode_reserved, decode_opcode, decode_engine, fun hr h1 h6 h5 ha => ?_,
    fun hr h1 h6 h5 ha hw => ?_, fun hr h1 h6 h5 ha hw => ?_⟩ <;> obtain ⟨o, e, hc⟩ := exists_op_engine hr h1 h6 h5
  · exact decode_unsupported hc ((habsent hc).mpr ha)
  · obtain ⟨i, hi⟩ := Option.ne_none_iff_exists'.mp (mt (habsent hc).mp ha)
    rw [decode_of_instrOf hc hi, if_pos ((hwide hc).mpr hw)]
  · obtain ⟨i, hi⟩ := Option.ne_none_iff_exists'.mp (mt (habsent hc).mp ha)
    obtain ⟨-, ho, he⟩ := cmd_eq_iff.mp hc
    obtain ⟨hop, heng, hoperand⟩ := instrOf_eq_some.mp hi
    refine ⟨i, ?_, by rw [hop, ← ho], by rw [heng, ← he], fun h => hoperand (opNumber_eq_two.mp (ho.symm.trans h))⟩
    rw [decode_of_instrOf hc hi, if_neg (mt (hwide hc).mp hw)]

/-- Settles O8: the field checks do not see OPERAND, and of the commands only SRAND does. -/
theorem onlySrandReadsOperand : Obligations.OnlySrandReadsOperand := by
  intro cmd a b hne
  obtain hr | ⟨hr, ho⟩ | ⟨hr, h1, h6, he⟩ | ⟨op, e, hc⟩ := cmd_cases cmd
  · rw [decode_reserved hr, decode_reserved hr]
  · rw [decode_opcode hr ho, decode_opcode hr ho]
  · rw [decode_engine hr h1 h6 he, decode_engine hr h1 h6 he]
  · have hs : op ≠ .srand := by
      obtain ⟨-, hop, -⟩ := cmd_eq_iff.mp hc
      rwa [hop, ne_eq, opNumber_eq_two] at hne
    cases hi : instrOf op e a with
    | none => rw [decode_unsupported hc hi, decode_unsupported hc ((instrOf_operand_irrel hs e b a).trans hi)]
    | some i =>
      rw [decode_of_instrOf hc hi, decode_of_instrOf hc ((instrOf_operand_irrel hs e b a).trans hi)]
      simp only [operandIllegal_of_ne_srand hs]

/-! ## Words written out -/

/-- Settles O3: the six words are the encodings of the six commands. -/
theorem writtenOutWordsDecode : Obligations.WrittenOutWordsDecode :=
  ⟨decode_encode (i := .initWell) rfl, decode_encode (i := .srandX128P 0x1234) (by decide),
    decode_encode (i := .randXR256P) rfl, decode_encode (i := .frandX128SS) rfl,
    decode_encode (i := .frand2Well) rfl, decode_encode (i := .drand2XR512P) rfl⟩

/-- Settles O5: a set bit from 8 up makes the word at least 256. -/
theorem reservedBitsAreRefused : Obligations.ReservedBitsAreRefused := by
  intro r k h8 _ hk
  have hge : 2 ^ k ≤ r.cmd.toNat := Nat.ge_two_pow_of_testBit hk
  have h256 : 2 ^ 8 ≤ 2 ^ k := Nat.pow_le_pow_right (by decide) h8
  exact decode_reserved (by omega)

/-- Settles O6: the fields of `ENG * 16 + OP` are ENG and OP. -/
theorem reservedOpAndEngAreRefused : Obligations.ReservedOpAndEngAreRefused := by
  intro operand
  refine ⟨fun op eng hop heng h => ?_, fun op eng h1 h6 he heng => ?_, decode_opcode (by simp) (by simp)⟩
  · apply decode_opcode <;> simp only [BitVec.toNat_ofNat] <;> omega
  · apply decode_engine <;> simp only [BitVec.toNat_ofNat] <;> omega

/-- Settles O7: the nine words are the absent pairs' `ENG * 16 + OP`. -/
theorem absentPairsAreUnsupported : Obligations.AbsentPairsAreUnsupported := by
  intro operand cmd h
  obtain ⟨op, e, hc, hnone⟩ : ∃ op e, cmd.toNat = engineNumber e * 16 + opNumber op ∧ instrOf op e operand = none := by
    simp only [List.mem_cons, List.not_mem_nil, or_false] at h
    obtain rfl | rfl | rfl | rfl | rfl | rfl | rfl | rfl | rfl := h
    · exact ⟨.frand, .xr128p, rfl, rfl⟩
    · exact ⟨.frand, .xr256p, rfl, rfl⟩
    · exact ⟨.frand, .xr512p, rfl, rfl⟩
    · exact ⟨.frand2, .xr128p, rfl, rfl⟩
    · exact ⟨.frand2, .xr256p, rfl, rfl⟩
    · exact ⟨.frand2, .xr512p, rfl, rfl⟩
    · exact ⟨.drand2, .x128ss, rfl, rfl⟩
    · exact ⟨.drand2, .x128p, rfl, rfl⟩
    · exact ⟨.drand2, .well, rfl, rfl⟩
  exact decode_unsupported hc hnone

/-! ## The listing lines -/

theorem wellFormed_randOf (e : Engine) : (randOf e).wellFormed = true := by cases e <;> rfl

theorem wellFormed_srandOf {e : Engine} {v : Word64} (h : e.width = 32 → v.toNat < 2 ^ 32) :
    (srandOf v e).wellFormed = true := by
  cases e with
  | x128ss | x128p | well => exact decide_eq_true (h rfl)
  | xr128p | xr256p | xr512p => rfl

/-- Settles O9: the lines assemble to the encodings of `randOf e` and `srandOf v e`, which are well formed. -/
theorem renamedLinesAssembleToTheirCommands : Obligations.RenamedLinesAssembleToTheirCommands := by
  refine fun e => ⟨⟨randOf e, decode_encode (wellFormed_randOf e), ?_⟩,
    fun v hv => ⟨srandOf v e, decode_encode (wellFormed_srandOf hv), ?_⟩⟩
  · cases e <;> exact ⟨rfl, rfl⟩
  · cases e <;> exact ⟨rfl, rfl, rfl⟩

theorem decodeTableWord_eq_some {nbits w : Nat} {i : Instr} :
    decodeTableWord nbits w = some i ↔ decode (requestOfTableWord nbits w) = .run i := by
  unfold decodeTableWord
  cases decode (requestOfTableWord nbits w) <;> simp

end Sys2Proof

/-! PROOFS. The port (30_encoding.md R44, R47, 70_reset_and_hazards.md R134): which command a step runs and how it is answered. -/

namespace Sys2Proof.Machine

/-- Settles O10: serving a request runs the command it decodes to. -/
theorem stepRunsDecodedCommand : Obligations.StepRunsDecodedCommand :=
  fun s _ _ _ hp hd => (step_request hp).trans (serve_run hd s)

@[simp] theorem sameBlock_present (s : State) (q : Request) : SameBlock (s.present q) s := by
  intro e
  cases e with
  | well => exact ⟨rfl, rfl⟩
  | _ => rfl

/-- Settles O11: the presented word is the head of the port, and presenting it touches nothing else. -/
theorem presentedWordIsTheNextCommand : Obligations.PresentedWordIsTheNextCommand := fun s _ _ _ h =>
  ⟨stepRunsDecodedCommand _ _ s.pending _ rfl (decodeTableWord_eq_some.mp h), sameBlock_present s _, rfl⟩

@[simp] theorem requestCount_request (r : Request) (rest : List HostAction) :
    requestCount (.request r :: rest) = requestCount rest + 1 := rfl

@[simp] theorem requestCount_reset (rest : List HostAction) : requestCount (.reset :: rest) = requestCount rest := rfl

/-- A request is answered by one response, whether it is run or refused. -/
theorem serve_answers (r : Request) (s : State) :
    ∃ st v u, serve r s = .next (State.answer st v u) ∧ u.pending = s.pending ∧ u.responses = s.responses := by
  cases hd : decode r with
  | run i =>
    obtain ⟨st, v, u, hu, hp, hr, -⟩ := exec_answers i s
    exact ⟨st, v, u, (serve_run hd s).trans hu, hp, hr⟩
  | refuse st => exact ⟨st, 0, s, serve_refuse hd s, rfl, rfl⟩

/-- Settles O19: a served request leaves the port and adds one response; an idle step and a reset event change neither sum. -/
theorem eachRequestGetsOneResponse : Obligations.EachRequestGetsOneResponse := by
  intro s t h
  cases hs : s.pending with
  | nil =>
    cases (step_idle hs).symm.trans h
    exact ⟨by rw [hs], List.prefix_rfl⟩
  | cons a rest =>
    cases a with
    | reset =>
      cases (step_reset hs).symm.trans h
      simp [hs]
    | request r =>
      obtain ⟨st, v, u, hu, hp, hr⟩ := serve_answers r s
      cases ((step_request hs).trans hu).symm.trans h
      simp only [State.answer_responses, State.answer_pending, hp, hr, hs, List.length_append, List.length_singleton,
        List.tail_cons, requestCount_request]
      exact ⟨by omega, List.prefix_append _ _⟩

theorem zext64_toNat_lt (v : Word32) : (zext64 v).toNat < 2 ^ 32 := by
  have := v.isLt
  simp only [zext64, BitVec.toNat_setWidth]
  omega

/-- Settles O52: INIT, SRAND and a refusal give RESULT 0, and every other command on a 32-bit engine widens a 32-bit word. -/
theorem resultOf32BitEngineFits32Bits : Obligations.ResultOf32BitEngineFits32Bits := by
  intro i s h
  cases i with
  | initXR128P | initXR256P | initXR512P | srandXR128P | srandXR256P | srandXR512P | randXR128P | randXR256P | randXR512P
    | drand2XR128P | drand2XR256P | drand2XR512P => cases h
  | initX128SS | initX128P | initWell => exact ⟨_, _, rfl, rfl, by decide⟩
  | srandX128SS | srandX128P | srandWell =>
    simp only [exec, execSrandX128SS, execSrandX128P, execSrandWell]
    split <;> exact ⟨_, _, rfl, rfl, by decide⟩
  | _ => exact ⟨_, _, rfl, rfl, zext64_toNat_lt _⟩

end Sys2Proof.Machine

/-! PROOFS. SRAND and INIT (40_seed_and_init.md). Both rebuild one engine from a source that does not depend on the state before: INIT
from the reset state (`exec_init`), SRAND from the seed alone (`exec_srandOf`). With the source written as a state, the two commands
are writes `s.withEngine e u`, and the statements on frame, earlier state, zero words and shorter expansions are facts about `u`. -/

namespace Sys2Proof

/-! ## SRAND as a family over the engines -/

section SrandOf

variable (v : Word64) (e : Engine)

@[simp] theorem op_srandOf : (srandOf v e).op = .srand := by cases e <;> rfl

@[simp] theorem engine_srandOf : (srandOf v e).engine = e := by cases e <;> rfl

@[simp] theorem operand_encode_srandOf : (encode (srandOf v e)).operand = v := by cases e <;> rfl

end SrandOf

/-- Every SRAND is the SRAND of some engine with some OPERAND. -/
theorem exists_eq_srandOf {i : Instr} (h : i.op = .srand) : ∃ v e, i = srandOf v e := by
  have hi : instrOf .srand i.engine (encode i).operand = some i := instrOf_eq_some.mpr ⟨h, rfl, fun _ => rfl⟩
  have hs : instrOf .srand i.engine (encode i).operand = some (srandOf (encode i).operand i.engine) :=
    instrOf_eq_some.mpr (by simp)
  exact ⟨_, _, Option.some_inj.mp (hi.symm.trans hs)⟩

/-- A wide operand is no seed of a 32-bit engine (30_encoding.md R50, check 5). -/
theorem decode_srandOf_wide {e : Engine} {v : Word64} (he : e.width = 32) (hv : 2 ^ 32 ≤ v.toNat) :
    decode (encode (srandOf v e)) = .refuse .errOperand := by
  have hc : (encode (srandOf v e)).cmd.toNat = engineNumber e * 16 + opNumber .srand := by simp [cmdWord]
  have hi : instrOf .srand e (encode (srandOf v e)).operand = some (srandOf v e) := instrOf_eq_some.mpr (by simp)
  have hwide : operandIllegal .srand e (encode (srandOf v e)).operand = true :=
    operandIllegal_eq_true.mpr ⟨rfl, he, by simpa using hv⟩
  rw [decode_of_instrOf hc hi, if_pos hwide]

end Sys2Proof

namespace Sys2Proof.Machine

/-! ## The seed expansion (40_seed_and_init.md R59 to R61, R64) -/

theorem expansionOf_expandWords {w : Nat} (mult : BitVec w) (shift : Nat) (seed : BitVec w) (n : Nat) :
    ExpansionOf mult shift seed (expandWords mult shift seed n) := by
  refine ⟨fun _ => by simp, fun i hi => ?_⟩
  simp only [getElem_expandWords, expandWord_succ]

/-- The seed of a 32-bit engine is the low half of OPERAND. -/
theorem seed32_eq_setWidth (v : Word64) : seed32 v = v.setWidth 32 :=
  (BitVec.setWidth_eq_extractLsb' (by decide)).symm

theorem expansionOf_expand32 (v : Word64) (n : Nat) :
    ExpansionOf 1812433253 30 (v.setWidth 32) (expand32 (seed32 v) n) := by
  rw [seed32_eq_setWidth]
  exact expansionOf_expandWords mult32 shift32 _ n

theorem expansionOf_expand64 (v : Word64) (n : Nat) :
    ExpansionOf 18124332531812433253 60 v (expand64 (seed64 v) n) :=
  expansionOf_expandWords mult64 shift64 v n

/-- If word 0, the seed, is 0, then word 1 is 1 (40_seed_and_init.md R64). -/
theorem expandWords_ne_zero {w n : Nat} (mult : BitVec w) (shift : Nat) (seed : BitVec w) (hw : 0 < w) (hn : 1 < n) :
    expandWords mult shift seed n ≠ Vector.replicate n 0 := by
  intro h
  have hword (i : Nat) (hi : i < n) : expandWord mult shift seed i = 0 := by
    rw [← getElem_expandWords mult shift seed n i hi, h, Vector.getElem_replicate]
  have h0 := hword 0 (by omega)
  have h1 := hword 1 hn
  rw [expandWord_succ, h0] at h1
  simp [← BitVec.toNat_inj, Nat.mod_eq_of_lt, Nat.one_lt_two_pow hw.ne'] at h1

/-! ## SRAND as a write -/

/-- The state a seed expands to, engine by engine (40_seed_and_init.md R65 to R70); only engine contents are taken from it, so its
port is empty. -/
def State.seeded (v : Word64) : State :=
  { x128ss := expand32 (seed32 v) 4
    x128p := expand32 (seed32 v) 4
    xr128p := expand64 (seed64 v) 2
    xr256p := expand64 (seed64 v) 4
    xr512p := expand64 (seed64 v) 8
    well := expand32 (seed32 v) 16
    idx := wellSrandIndex
    pending := []
    responses := [] }

/-- A legal SRAND gives its engine what the seed expands to, and answers (OK, 0). -/
theorem exec_srandOf {v : Word64} {e : Engine} (h : (srandOf v e).wellFormed = true) (s : State) :
    exec (srandOf v e) s = .next ((s.withEngine e (.seeded v)).answer .ok 0) := by
  cases e with
  | x128ss | x128p | well =>
    have hv : operandHigh v = 0 := (operandHigh_eq_zero v).mpr (of_decide_eq_true h)
    exact if_neg (not_not.mpr hv)
  | xr128p | xr256p | xr512p => rfl

/-- The same for a command known to be a legal SRAND: one seed gives the contents in every state. -/
theorem exec_srand {i : Instr} (h : i.op = .srand) (hw : i.wellFormed = true) :
    ∃ v : Word64, ∀ s : State, exec i s = .next ((s.withEngine i.engine (.seeded v)).answer .ok 0) := by
  obtain ⟨v, e, rfl⟩ := exists_eq_srandOf h
  refine ⟨v, fun s => ?_⟩
  rw [engine_srandOf]
  exact exec_srandOf hw s

/-- A SRAND whose operand is too wide for its engine changes nothing, and answers (ERR_OPERAND, 0). -/
theorem exec_srandOf_wide {v : Word64} {e : Engine} (he : e.width = 32) (hv : 2 ^ 32 ≤ v.toNat) (s : State) :
    exec (srandOf v e) s = .next (s.answer .errOperand 0) := by
  have hne : operandHigh v ≠ 0 := mt (operandHigh_eq_zero v).mp (Nat.not_lt.mpr hv)
  cases e with
  | x128ss | x128p | well => exact if_pos hne
  | xr128p | xr256p | xr512p => cases he

section Operand32

variable {v : Word64} (e : Engine) (h : v.toNat < 2 ^ 32)
include h

theorem decode_srandOf_of_lt : decode (encode (srandOf v e)) = .run (srandOf v e) :=
  decode_encode (wellFormed_srandOf fun _ => h)

theorem exec_srandOf_of_lt (s : State) :
    exec (srandOf v e) s = .next ((s.withEngine e (.seeded v)).answer .ok 0) :=
  exec_srandOf (wellFormed_srandOf fun _ => h) s

end Operand32

/-- Settles O24: the rules for a narrow and for a wide operand, at the two Xoshiro128 engines. -/
theorem srandExpandsSeedOnXoshiro128 : Obligations.SrandExpandsSeedOnXoshiro128 := fun operand s =>
  ⟨decode_srandOf_of_lt .x128ss, decode_srandOf_wide (e := .x128ss) rfl,
    fun h => ⟨_, expansionOf_expand32 operand 4, exec_srandOf_of_lt .x128ss h s⟩,
    fun h => exec_srandOf_wide (e := .x128ss) rfl h s,
    decode_srandOf_of_lt .x128p, decode_srandOf_wide (e := .x128p) rfl,
    fun h => ⟨_, expansionOf_expand32 operand 4, exec_srandOf_of_lt .x128p h s⟩,
    fun h => exec_srandOf_wide (e := .x128p) rfl h s⟩

/-- Settles O25: on a 64-bit engine every SRAND is well formed. -/
theorem srandExpandsSeedOn64BitEngines : Obligations.SrandExpandsSeedOn64BitEngines := fun operand s =>
  ⟨decode_encode (i := .srandXR128P operand) rfl,
    ⟨_, expansionOf_expand64 operand 2, exec_srandOf (e := .xr128p) rfl s⟩,
    decode_encode (i := .srandXR256P operand) rfl,
    ⟨_, expansionOf_expand64 operand 4, exec_srandOf (e := .xr256p) rfl s⟩,
    decode_encode (i := .srandXR512P operand) rfl,
    ⟨_, expansionOf_expand64 operand 8, exec_srandOf (e := .xr512p) rfl s⟩⟩

/-- Settles O26: the same two rules at WELL, whose write holds the index too. -/
theorem srandExpandsSeedOnWell : Obligations.SrandExpandsSeedOnWell := fun operand s =>
  ⟨decode_srandOf_of_lt .well, decode_srandOf_wide (e := .well) rfl,
    fun h => ⟨_, expansionOf_expand32 operand 16, exec_srandOf_of_lt .well h s⟩,
    fun h => exec_srandOf_wide (e := .well) rfl h s⟩

/-! ## INIT as a write -/

/-- INIT gives its engine what it holds after reset (40_seed_and_init.md R71), and answers (OK, 0). -/
theorem exec_init {i : Instr} (h : i.op = .init) (s : State) :
    exec i s = .next ((s.withEngine i.engine .reset).answer .ok 0) := by
  cases i with
  | initX128SS | initX128P | initXR128P | initXR256P | initXR512P | initWell => rfl
  | _ => cases h

/-- An INIT word decodes whatever OPERAND holds (30_encoding.md R46). -/
theorem decode_init {i : Instr} (h : i.op = .init) (operand : Word64) :
    decode { cmd := (encode i).cmd, operand := operand } = .run i := by
  have hw : i.wellFormed = true := by
    cases i with
    | srandX128SS | srandX128P | srandWell => cases h
    | _ => rfl
  exact decode_eq_run.mpr ⟨hw, rfl, fun hs => by simp [hs] at h⟩

/-- Settles O23: `decode_init` and `exec_init` at the six engines. -/
theorem initLoadsDefaultState : Obligations.InitLoadsDefaultState :=
  ⟨fun operand => ⟨decode_init (i := .initX128SS) rfl operand, decode_init (i := .initX128P) rfl operand,
      decode_init (i := .initXR128P) rfl operand, decode_init (i := .initXR256P) rfl operand,
      decode_init (i := .initXR512P) rfl operand, decode_init (i := .initWell) rfl operand⟩,
    fun s => ⟨exec_init (i := .initX128SS) rfl s, exec_init (i := .initX128P) rfl s,
      exec_init (i := .initXR128P) rfl s, exec_init (i := .initXR256P) rfl s,
      exec_init (i := .initXR512P) rfl s, exec_init (i := .initWell) rfl s⟩⟩

/-! ## What a rebuilt engine holds -/

/-- INIT and a legal SRAND write contents that do not depend on the state (40_seed_and_init.md R62, R71). -/
theorem exec_rebuild {i : Instr} (hop : i.op = .init ∨ i.op = .srand) (hw : i.wellFormed = true) :
    ∃ u : State, ∀ s : State, exec i s = .next ((s.withEngine i.engine u).answer .ok 0) := by
  obtain hinit | hsrand := hop
  · exact ⟨.reset, exec_init hinit⟩
  · obtain ⟨v, hv⟩ := exec_srand hsrand hw
    exact ⟨.seeded v, hv⟩

/-- Settles O27: from both states the engine holds the same contents `u`. -/
theorem rebuildDiscardsPriorState : Obligations.RebuildDiscardsPriorState := by
  intro i s s' hop hw
  obtain ⟨u, hu⟩ := exec_rebuild hop hw
  exact ⟨_, _, hu s, hu s', by simp⟩

/-- Whether an array is all zero is a matter of the engine's own words. -/
theorem EngineEq.engineZero_iff {e : Engine} {s t : State} (h : EngineEq e s t) : EngineZero e s ↔ EngineZero e t := by
  cases e with
  | well =>
    obtain ⟨hwords, -⟩ := h
    simp only [EngineZero, hwords]
  | _ =>
    simp only [EngineEq] at h
    simp only [EngineZero, h]

theorem not_engineZero_seeded (e : Engine) (v : Word64) : ¬ EngineZero e (.seeded v) := by
  cases e with
  | x128ss | x128p | well => exact expandWords_ne_zero mult32 shift32 (seed32 v) (by decide) (by decide)
  | xr128p | xr256p | xr512p => exact expandWords_ne_zero mult64 shift64 (seed64 v) (by decide) (by decide)

/-- Settles O28: the engine holds the expansion of the seed, of which word 0 or word 1 is not 0. -/
theorem noSeedGivesAllZeroState : Obligations.NoSeedGivesAllZeroState := by
  intro i s hop hw
  obtain ⟨v, hv⟩ := exec_srand hop hw
  refine ⟨_, hv s, ?_⟩
  rw [EngineEq.engineZero_iff (t := .seeded v) (by simp)]
  exact not_engineZero_seeded i.engine v

/-- Settles O29: word `k` of an expansion does not depend on the number of words (`getElem_expand32`, `getElem_expand64`). -/
theorem shorterExpansionsBeginLongerOnes : Obligations.ShorterExpansionsBeginLongerOnes := by
  refine fun operand s => ⟨fun h => ⟨_, _, _, exec_srandOf_of_lt .x128ss h s, exec_srandOf_of_lt .x128p h s,
    exec_srandOf_of_lt .well h s, fun k hk => ?_⟩, _, _, _, exec_srandOf (e := .xr128p) rfl s,
    exec_srandOf (e := .xr256p) rfl s, exec_srandOf (e := .xr512p) rfl s, fun k hk => ?_, fun k hk => ?_⟩
  all_goals simp [State.withEngine, State.seeded]

end Sys2Proof.Machine

/-! PROOFS. The two 32-bit Xoshiro engines (41_xoshiro32.md R79 to R83). Below the word width the model's rotation is the library's
(`rotl_eq_rotateLeft`), which turns the closed form of the shared update into the one the statements write; RAND is then one write of
that update and one answer. -/

namespace Sys2Proof.Machine

/-! ## The rotation -/

/-- Settles O40: a bit that stays below the width moves up by `k`; one that passes it comes back as one of the low `k` bits. -/
theorem rotlMovesEveryBit : Obligations.RotlMovesEveryBit := by
  intro w x k i _ hkw hi
  rw [getLsbD_rotl x hkw]
  obtain hstay | hwrap := Nat.lt_or_ge (i + k) w
  · have hpos : (i + k) % w = i + k := Nat.mod_eq_of_lt hstay
    simp [hpos, hstay]
  · have hpos : (i + k) % w = i + k - w := by rw [Nat.mod_eq_sub_mod hwrap, Nat.mod_eq_of_lt (by omega)]
    have hlow : i + k - w < k := by omega
    have hback : w - k + (i + k - w) = i := by omega
    rw [hpos, if_pos hlow, hback]

theorem rotl_eq_rotateLeft {w k : Nat} (hkw : k < w) (x : BitVec w) : rotl x k = x.rotateLeft k := by
  rw [BitVec.rotateLeft_def, Nat.mod_eq_of_lt hkw, rotl]

/-! ## The shared update and RAND -/

/-- The closed form of R81 with the library's rotation. -/
theorem update4_eq_rotateLeft {w b : Nat} (hb : b < w) (a : Nat) (s : Words w 4) :
    update4 a b s = #v[s[0] ^^^ s[1] ^^^ s[3], s[0] ^^^ s[1] ^^^ s[2],
      s[0] ^^^ s[2] ^^^ (s[1] <<< a), (s[1] ^^^ s[3]).rotateLeft b] := by
  rw [update4_eq, rotl_eq_rotateLeft hb]

theorem exec_randX128SS (s : State) :
    exec .randX128SS s = .next ((s.setX128ss (update4 9 11 s.x128ss)).answer .ok (zext64 (rotl (s.x128ss[0] * 5) 7 * 9))) :=
  rfl

theorem exec_randX128P (s : State) :
    exec .randX128P s = .next ((s.setX128p (update4 9 11 s.x128p)).answer .ok (zext64 (s.x128p[0] + s.x128p[3]))) :=
  rfl

/-- Settles O30: the write and the answer of `exec_randX128SS`, with both rotations the library's. -/
theorem randX128SSResultAndState : Obligations.RandX128SSResultAndState := by
  intro s
  rw [exec_randX128SS, update4_eq_rotateLeft (by decide), rotl_eq_rotateLeft (by decide)]
  rfl

/-- Settles O31: the write and the answer of `exec_randX128P`; the output takes no rotation. -/
theorem randX128PResultAndState : Obligations.RandX128PResultAndState := by
  intro s
  rw [exec_randX128P, update4_eq_rotateLeft (by decide)]
  rfl

/-- Settles O38: each engine takes the same update of the same words. -/
theorem xoshiro128EnginesShareTheirUpdate : Obligations.Xoshiro128EnginesShareTheirUpdate :=
  fun s h => ⟨_, _, exec_randX128SS s, exec_randX128P s, by simp [h]⟩

end Sys2Proof.Machine

/-! PROOFS. The three 64-bit engines (42_xoroshiro64.md R84 to R86). A step is brought once to the closed form in the old words, with
the library's rotation; RAND is then one write of that array and one answer with the sum of two old words. -/

namespace Sys2Proof.Machine

/-! ## The closed form of a step -/

/-- R84: the document's `s1 ^= s0` makes word 1 the exclusive or of the two old words, which both new words use. -/
theorem stepXR128P_eq (v : Words 64 2) :
    stepXR128P v = (#v[v[0].rotateLeft 24 ^^^ (v[0] ^^^ v[1]) ^^^ ((v[0] ^^^ v[1]) <<< 16), (v[0] ^^^ v[1]).rotateLeft 37],
      v[0] + v[1]) := by
  simp only [stepXR128P, BitVec.xor_comm v[1] v[0], rotl_eq_rotateLeft (show xr128pRotA < 64 by decide),
    rotl_eq_rotateLeft (show xr128pRotB < 64 by decide)]
  rfl

/-- R85: the shared update at 64 bits with 17 and 45. -/
theorem stepXR256P_eq (v : Words 64 4) :
    stepXR256P v = (#v[v[0] ^^^ v[1] ^^^ v[3], v[0] ^^^ v[1] ^^^ v[2],
      v[0] ^^^ v[2] ^^^ (v[1] <<< 17), (v[1] ^^^ v[3]).rotateLeft 45], v[0] + v[3]) := by
  rw [stepXR256P, update4_eq_rotateLeft (by decide)]
  rfl

/-- R86: of the statements in order, words 1, 4 and 6 read a word already replaced (2, 5 and 7); the others read old words only. -/
theorem stepXR512P_eq (v : Words 64 8) :
    stepXR512P v = (#v[v[0] ^^^ v[6], v[0] ^^^ v[1] ^^^ v[2], v[0] ^^^ v[2], v[3] ^^^ v[4], v[1] ^^^ v[4] ^^^ v[5],
      v[1] ^^^ v[5], v[3] ^^^ v[6] ^^^ v[7] ^^^ (v[1] <<< 11), (v[3] ^^^ v[7]).rotateLeft 21], v[0] + v[2]) := by
  have h1 : v[1] ^^^ (v[0] ^^^ v[2]) = v[0] ^^^ v[1] ^^^ v[2] := by ac_rfl
  have h4 : v[4] ^^^ (v[1] ^^^ v[5]) = v[1] ^^^ v[4] ^^^ v[5] := by ac_rfl
  have h6 : v[6] ^^^ (v[3] ^^^ v[7]) = v[3] ^^^ v[6] ^^^ v[7] := by ac_rfl
  simp only [stepXR512P, BitVec.xor_comm v[2] v[0], BitVec.xor_comm v[5] v[1], BitVec.xor_comm v[7] v[3], h1, h4, h6,
    rotl_eq_rotateLeft (show xr512pRot < 64 by decide)]
  rfl

/-! ## RAND -/

theorem exec_randXR128P (s : State) :
    exec .randXR128P s = .next ((s.setXr128p (stepXR128P s.xr128p).1).answer .ok (stepXR128P s.xr128p).2) :=
  rfl

theorem exec_randXR256P (s : State) :
    exec .randXR256P s = .next ((s.setXr256p (stepXR256P s.xr256p).1).answer .ok (stepXR256P s.xr256p).2) :=
  rfl

theorem exec_randXR512P (s : State) :
    exec .randXR512P s = .next ((s.setXr512p (stepXR512P s.xr512p).1).answer .ok (stepXR512P s.xr512p).2) :=
  rfl

/-- Settles O32: the write and the answer of `exec_randXR128P` at the closed form of the step. -/
theorem randXR128PResultAndState : Obligations.RandXR128PResultAndState := by
  intro s
  rw [exec_randXR128P, stepXR128P_eq]
  rfl

/-- Settles O33: the write and the answer of `exec_randXR256P` at the closed form of the step. -/
theorem randXR256PResultAndState : Obligations.RandXR256PResultAndState := by
  intro s
  rw [exec_randXR256P, stepXR256P_eq]
  rfl

/-- Settles O34: the write and the answer of `exec_randXR512P` at the closed form of the step. -/
theorem randXR512PResultAndState : Obligations.RandXR512PResultAndState := by
  intro s
  rw [exec_randXR512P, stepXR512P_eq]
  rfl

end Sys2Proof.Machine

/-! PROOFS. RandWELL (43_well.md R88 to R91). The stepping commands differ only in how they convert the raw output, so they all take the
index to `wellNextIndex`. The R90 instance of the mixing function is two writes of the array, at the old and at the next index
(`wellMixR90_writes`); what it changes is then a matter of reading a word after a write. -/

namespace Sys2Proof.Machine

/-! ## RAND -/

theorem exec_randWell (s : State) :
    exec .randWell s = .next ((s.setWell (Config.wellMix s.well s.idx).1 (wellNextIndex s.idx)).answer .ok
      (zext64 (Config.wellMix s.well s.idx).2)) :=
  rfl

/-- Settles O35: the write and the answer of `exec_randWell`, with the next index written out. -/
theorem randWellMixesAndStepsIndex : Obligations.RandWellMixesAndStepsIndex := exec_randWell

/-! ## The walk of the index (R91) -/

theorem execList_cons_of_next {i : Instr} {s t : State} (h : exec i s = .next t) (rest : List Instr) :
    execList (i :: rest) s = execList rest t := by
  simp only [execList, h]

/-- R91: FRAND and FRAND2 step the index as RAND does. -/
theorem exec_stepping_well_idx {i : Instr} (h : i = .randWell ∨ i = .frandWell ∨ i = .frand2Well) (s : State) :
    ∃ t, exec i s = .next t ∧ t.idx = s.idx - 1#4 := by
  obtain rfl | rfl | rfl := h <;>
    exact ⟨_, rfl, wellNextIndex_eq s.idx⟩

/-- Settles O36, by induction on the list: its first command takes the index down by one, from whatever state. -/
theorem wellIndexWalksDown : Obligations.WellIndexWalksDown := by
  intro l
  induction l with
  | nil => exact fun _ s => ⟨s, rfl, (BitVec.sub_zero s.idx).symm⟩
  | cons i rest ih =>
    intro h s
    obtain ⟨hi, hrest⟩ := List.forall_mem_cons.mp h
    obtain ⟨t, ht, hidx⟩ := exec_stepping_well_idx hi s
    obtain ⟨u, hu, hwalk⟩ := ih hrest t
    refine ⟨u, (execList_cons_of_next ht rest).trans hu, ?_⟩
    calc u.idx = s.idx - 1#4 - BitVec.ofNat 4 rest.length := by rw [hwalk, hidx]
      _ = s.idx - BitVec.ofNat 4 (rest.length + 1) := by rw [BitVec.ofNat_add, BitVec.add_comm, ← sub_sub]

/-! ## The instance of R90 -/

section Words

variable (v : Words 32 16) (k : BitVec 4) (x : Word32)

@[simp] theorem wellWord_set_self : wellWord (v.set k.toNat x k.isLt) k = x := by simp [wellWord]

theorem wellWord_set_of_ne {j : BitVec 4} (h : j ≠ k) : wellWord (v.set k.toNat x k.isLt) j = wellWord v j :=
  Vector.getElem_set_ne k.isLt j.isLt fun hk => h (BitVec.eq_of_toNat_eq hk.symm)

@[simp] theorem wellWord_zero : wellWord (Vector.replicate 16 0#32) k = 0#32 := Vector.getElem_replicate k.isLt

theorem wellNextIndex_eq_add_15 : wellNextIndex k = k + 15 := by
  rw [wellNextIndex_eq, sub_eq_add_neg]
  rfl

theorem ne_wellNextIndex : k ≠ wellNextIndex k := by
  rw [wellNextIndex_eq]
  bv_omega

/-- R90 writes the word at the index, then the word at the next index, and returns the latter. -/
theorem wellMixR90_writes :
    ∃ y, (wellMixR90 v k).1 =
        (v.set k.toNat (wellWord v k ^^^ wellWord v (k + 13) ^^^ (wellWord v k <<< 16) ^^^ (wellWord v (k + 13) <<< 15) ^^^
          (wellWord v (k + 9) ^^^ (wellWord v (k + 9) >>> 11))) k.isLt).set (wellNextIndex k).toNat y (wellNextIndex k).isLt ∧
      (wellMixR90 v k).2 = wellWord (wellMixR90 v k).1 (wellNextIndex k) :=
  ⟨_, rfl, rfl⟩

/-- R90: from the all-zero array every word read is 0 (`wellWord_zero`), so both writes write 0. -/
theorem wellMixR90_zero : wellMixR90 (Vector.replicate 16 0) k = (Vector.replicate 16 0, 0) := by
  simp [wellMixR90]

end Words

/-- Settles O37: the second write is at another word than the first, so neither hides what the other wrote. -/
theorem publishedWellMixWritesTwoWords : Obligations.PublishedWellMixWritesTwoWords := by
  refine ⟨fun v k => ?_, wellMixR90_zero⟩
  obtain ⟨y, hwords, hout⟩ := wellMixR90_writes v k
  rw [← wellNextIndex_eq_add_15]
  refine ⟨?_, fun j hk hnext => ?_, hout⟩
  · rw [hwords, wellWord_set_of_ne _ _ _ (ne_wellNextIndex k), wellWord_set_self]
  · rw [hwords, wellWord_set_of_ne _ _ _ hnext, wellWord_set_of_ne _ _ _ hk]

end Sys2Proof.Machine

/-! PROOFS. The float conversion (44_float_conversion.md). Both subtractions are exact and their difference is `n / 2^F`, with
`n = m + 1` or `n = m` the low bits of the raw output: the pattern of `n / 2^F` is written down once (`fractionPattern`), the
subtraction is brought to it (`floatSub_injected`), and its value is read off it (`ieeeValue_fractionPattern`). -/

namespace Sys2Proof.Machine

/-! ## The pattern of a fraction -/

section FractionPattern

variable (f : FloatFormat)

/-- The exponent bias of the format (R93). -/
def floatBias : Nat := 2 ^ (f.expBits - 1) - 1

/-- The pattern of `n / 2^F`, for `n ≤ 2^F`: `p` being the place of the highest set bit of `n`, the exponent is `p - F` and the
fraction is what stands below that bit (R94 to R96). -/
def fractionPattern (n : Nat) : Nat :=
  if n = 0 then 0 else (floatBias f - f.fracBits + n.log2) * 2 ^ f.fracBits + n * 2 ^ (f.fracBits - n.log2) % 2 ^ f.fracBits

@[simp] theorem fractionPattern_zero : fractionPattern f 0 = 0 := rfl

variable {f}

theorem fractionPattern_of_ne_zero {n : Nat} (hn : n ≠ 0) : fractionPattern f n =
    (floatBias f - f.fracBits + n.log2) * 2 ^ f.fracBits + n * 2 ^ (f.fracBits - n.log2) % 2 ^ f.fracBits :=
  if_neg hn

theorem log2_le_of_le_two_pow {n k : Nat} (h : n ≤ 2 ^ k) : n.log2 ≤ k := by
  obtain rfl | hn := eq_or_ne n 0
  · simp
  · exact Nat.lt_succ_iff.mp ((Nat.log2_lt hn).mpr (h.trans_lt (Nat.pow_lt_pow_succ (by decide))))

theorem log2_mul_two_pow {n : Nat} (hn : n ≠ 0) (j : Nat) : (n * 2 ^ j).log2 = n.log2 + j := by
  have hpos := Nat.two_pow_pos j
  refine (Nat.log2_eq_iff (Nat.mul_ne_zero hn hpos.ne')).mpr ⟨?_, ?_⟩
  · rw [Nat.pow_add]
    exact Nat.mul_le_mul_right _ (Nat.log2_self_le hn)
  · rw [Nat.add_right_comm, Nat.pow_add]
    exact Nat.mul_lt_mul_of_pos_right Nat.lt_log2_self hpos

/-- A number moved up until its highest bit stands at place `k` is `2^k` and the bits below that place. -/
theorem normalized_eq {n k : Nat} (hn : n ≠ 0) (hk : n.log2 ≤ k) :
    n * 2 ^ (k - n.log2) = 2 ^ k + n * 2 ^ (k - n.log2) % 2 ^ k := by
  have hlog : (n * 2 ^ (k - n.log2)).log2 = k := by rw [log2_mul_two_pow hn]; omega
  obtain ⟨hlow, hhigh⟩ := (Nat.log2_eq_iff (Nat.mul_ne_zero hn (Nat.two_pow_pos _).ne')).mp hlog
  rw [Nat.pow_succ] at hhigh
  rw [Nat.mod_eq_sub_mod hlow, Nat.mod_eq_of_lt (by omega)]
  omega

/-- The pattern as R94 to R96 write it, with shifts, a mask and an or. -/
theorem fractionPattern_eq_or {n : Nat} (hn : n ≠ 0) : fractionPattern f n =
    ((floatBias f - f.fracBits + n.log2) <<< f.fracBits) ||| ((n <<< (f.fracBits - n.log2)) &&& (2 ^ f.fracBits - 1)) := by
  rw [Nat.and_two_pow_sub_one_eq_mod, ← Nat.shiftLeft_add_eq_or_of_lt (Nat.mod_lt _ (Nat.two_pow_pos _)), Nat.shiftLeft_eq,
    Nat.shiftLeft_eq, fractionPattern_of_ne_zero hn]

/-- The whole formula of R95 and R96, as a word. -/
theorem ofNat_fractionPattern (w n : Nat) : BitVec.ofNat w (fractionPattern f n) =
    if n = 0 then 0 else BitVec.ofNat w
      (((floatBias f - f.fracBits + n.log2) <<< f.fracBits) ||| ((n <<< (f.fracBits - n.log2)) &&& (2 ^ f.fracBits - 1))) := by
  split
  · next h0 => rw [h0, fractionPattern_zero]; rfl
  · next h0 => rw [fractionPattern_eq_or h0]

end FractionPattern

/-! ## The fields of a pattern put together from them (R93) -/

section Fields

variable {f : FloatFormat} {c r : Nat} (hc : c < 2 ^ f.expBits) (hr : r < 2 ^ f.fracBits)

include hr

theorem floatFrac_fields : floatFrac f (c * 2 ^ f.fracBits + r) = r := by
  rw [floatFrac, Nat.mul_add_mod_self_right, Nat.mod_eq_of_lt hr]

theorem fields_div : (c * 2 ^ f.fracBits + r) / 2 ^ f.fracBits = c := by
  rw [Nat.mul_comm, Nat.mul_add_div (Nat.two_pow_pos _), Nat.div_eq_of_lt hr, Nat.add_zero]

include hc

theorem floatExp_fields : floatExp f (c * 2 ^ f.fracBits + r) = c := by
  rw [floatExp, fields_div hr, Nat.mod_eq_of_lt hc]

theorem floatSign_fields : floatSign f (c * 2 ^ f.fracBits + r) = false := by
  refine Nat.testBit_lt_two_pow ?_
  rw [Nat.pow_add, ← Nat.div_lt_iff_lt_mul (Nat.two_pow_pos _), fields_div hr]
  exact hc

theorem floatScale_fields : floatScale f (c * 2 ^ f.fracBits + r) = c - 1 := by
  rw [floatScale, floatExp_fields hc hr]

theorem floatAt_fields (h0 : c ≠ 0) (e : Nat) :
    floatAt f e (c * 2 ^ f.fracBits + r) = ((2 ^ f.fracBits + r) * 2 ^ (c - 1 - e) : Nat) := by
  simp only [floatAt, floatMant, floatExp_fields hc hr, floatFrac_fields hr, floatScale_fields hc hr, floatSign_fields hc hr,
    if_neg h0, Bool.false_eq_true, if_false]

omit hc in
/-- The value of a normal pattern by R93's formula. -/
theorem ieeeValue_fields (h0 : 0 < c) (hc : c < 2 ^ f.expBits - 1) :
    ieeeValue f (c * 2 ^ f.fracBits + r) = some ((2 : ℚ) ^ ((c : ℤ) - floatBias f) * (1 + (r : ℚ) / 2 ^ f.fracBits)) := by
  have hnonzero : c * 2 ^ f.fracBits + r ≠ 0 := (Nat.add_pos_left (Nat.mul_pos h0 (Nat.two_pow_pos _)) _).ne'
  have hc' : c < 2 ^ f.expBits := by omega
  have hbias : (2 ^ (f.expBits - 1) - 1 : ℤ) = floatBias f := by simp [floatBias]
  rw [ieeeValue, if_neg hnonzero, floatExp_fields hc' hr, floatFrac_fields hr, floatSign_fields hc' hr, if_pos ⟨h0, hc⟩, hbias]
  simp

/-- Subtracting a smaller pattern: exact at its scale. -/
theorem floatSub_fields {c' r' : Nat} (h0 : c' ≠ 0) (hle : c' ≤ c) (hr' : r' < 2 ^ f.fracBits) :
    floatSub f (c * 2 ^ f.fracBits + r) (c' * 2 ^ f.fracBits + r') =
      floatOfScaled f (((2 ^ f.fracBits + r) * 2 ^ (c - c') : Nat) - (2 ^ f.fracBits + r' : Nat)) (c' - 1) := by
  have hc' := hle.trans_lt hc
  have hshift : c - 1 - (c' - 1) = c - c' := by omega
  rw [floatSub, floatScale_fields hc hr, floatScale_fields hc' hr', Nat.min_eq_right (Nat.sub_le_sub_right hle 1),
    floatAt_fields hc hr (by omega), floatAt_fields hc' hr' h0, hshift, Nat.sub_self, Nat.pow_zero, Nat.mul_one]

end Fields

/-! ## The subtractions are exact (R110)

The bound `hf`, true of both formats, keeps `2^-F`, the least difference other than 0, among the normal numbers. -/

theorem floatOfScaled_natCast (f : FloatFormat) (d e : Nat) : floatOfScaled f (d : Int) e = floatOfMagnitude f d e := by
  simp [floatOfScaled]

/-- A magnitude `n * 2^(e + j)` that is a whole multiple `2^d` of the new last place `2^k` is not rounded. -/
theorem significand_exact (n : Nat) {d e j k : Nat} (h : e + j = k + d) :
    (if k ≤ e then n * 2 ^ j * 2 ^ (e - k) else roundHalfEven (n * 2 ^ j) (k - e)) = n * 2 ^ d := by
  split
  · have hd : j + (e - k) = d := by omega
    rw [Nat.mul_assoc, ← Nat.pow_add, hd]
  · have hj : j = d + (k - e) := by omega
    rw [hj, Nat.pow_add, ← Nat.mul_assoc, roundHalfEven_of_dvd (Nat.dvd_mul_left ..), Nat.mul_div_cancel _ (Nat.two_pow_pos _)]

/-- Or-ing the low bits of `x` into a pattern without fraction bits adds them. -/
theorem toNat_or_lowBits {w c k : Nat} (h : (c + 1) * 2 ^ k ≤ 2 ^ w) (x : BitVec w) :
    (BitVec.ofNat w (c * 2 ^ k) ||| (x &&& BitVec.ofNat w (2 ^ k - 1))).toNat = c * 2 ^ k + x.toNat % 2 ^ k := by
  have hpos := Nat.two_pow_pos k
  rw [Nat.succ_mul] at h
  have hc : c * 2 ^ k < 2 ^ w := by omega
  have hmask : 2 ^ k - 1 < 2 ^ w := by omega
  rw [BitVec.toNat_or, BitVec.toNat_and, BitVec.toNat_ofNat, BitVec.toNat_ofNat, Nat.mod_eq_of_lt hc, Nat.mod_eq_of_lt hmask,
    Nat.and_two_pow_sub_one_eq_mod, ← Nat.shiftLeft_eq, Nat.shiftLeft_add_eq_or_of_lt (Nat.mod_lt _ hpos)]

section Exact

variable {f : FloatFormat} {n : Nat} (hf : f.fracBits + 1 < floatBias f) (hn : n ≤ 2 ^ f.fracBits)

include hf

theorem two_pow_expBits_eq : 2 ^ f.expBits = 2 * (floatBias f + 1) := by
  obtain h0 | hpos := Nat.eq_zero_or_pos f.expBits
  · simp [floatBias, h0] at hf
  · rw [floatBias, Nat.sub_add_cancel Nat.one_le_two_pow, ← Nat.pow_succ', Nat.succ_eq_add_one, Nat.sub_add_cancel hpos]

include hn

theorem fractionPattern_lt : fractionPattern f n < (floatBias f + 1) * 2 ^ f.fracBits := by
  obtain rfl | h0 := eq_or_ne n 0
  · simp
  have hlog := log2_le_of_le_two_pow hn
  rw [fractionPattern_of_ne_zero h0]
  calc (floatBias f - f.fracBits + n.log2) * 2 ^ f.fracBits + n * 2 ^ (f.fracBits - n.log2) % 2 ^ f.fracBits
      < (floatBias f - f.fracBits + n.log2) * 2 ^ f.fracBits + 2 ^ f.fracBits :=
        Nat.add_lt_add_left (Nat.mod_lt _ (Nat.two_pow_pos _)) _
    _ = (floatBias f - f.fracBits + n.log2 + 1) * 2 ^ f.fracBits := (Nat.succ_mul ..).symm
    _ ≤ (floatBias f + 1) * 2 ^ f.fracBits := Nat.mul_le_mul_right _ (by omega)

/-- A magnitude of `n / 2^F`, given as `n * 2^j` at a smaller scale, needs no rounding. -/
theorem floatOfMagnitude_fraction {j e : Nat} (he : e + j + 1 = floatBias f) :
    floatOfMagnitude f (n * 2 ^ j) e = fractionPattern f n := by
  obtain rfl | h0 := eq_or_ne n 0
  · simp
  have hlog := log2_le_of_le_two_pow hn
  have hscale : e + j = n.log2 + j + e - f.fracBits + (f.fracBits - n.log2) := by omega
  have hcarry : (n.log2 + j + e - f.fracBits) * 2 ^ f.fracBits + n * 2 ^ (f.fracBits - n.log2) = fractionPattern f n := by
    have hexp : floatBias f - f.fracBits + n.log2 = n.log2 + j + e - f.fracBits + 1 := by omega
    rw [fractionPattern_of_ne_zero h0, hexp, Nat.succ_mul, Nat.add_assoc _ (2 ^ f.fracBits), ← normalized_eq h0 hlog]
  have hfinite : fractionPattern f n ≤ (2 ^ f.expBits - 1) * 2 ^ f.fracBits :=
    (fractionPattern_lt hf hn).le.trans (Nat.mul_le_mul_right _ (by rw [two_pow_expBits_eq hf]; omega))
  rw [floatOfMagnitude, if_neg (Nat.mul_ne_zero h0 (Nat.two_pow_pos j).ne'), log2_mul_two_pow h0]
  simp only [significand_exact n hscale, hcarry]
  exact Nat.min_eq_left hfinite

/-- The value R93 gives that pattern. -/
theorem ieeeValue_fractionPattern : ieeeValue f (fractionPattern f n) = some ((n : ℚ) / 2 ^ f.fracBits) := by
  obtain rfl | h0 := eq_or_ne n 0
  · simp [ieeeValue]
  have hlog := log2_le_of_le_two_pow hn
  have hexp := two_pow_expBits_eq hf
  have hpow : ((floatBias f - f.fracBits + n.log2 : Nat) : ℤ) - floatBias f = -((f.fracBits - n.log2 : Nat) : ℤ) := by omega
  have hnorm : (n : ℚ) * 2 ^ (f.fracBits - n.log2)
      = 2 ^ f.fracBits + (n * 2 ^ (f.fracBits - n.log2) % 2 ^ f.fracBits : Nat) := by
    exact_mod_cast normalized_eq h0 hlog
  rw [fractionPattern_of_ne_zero h0, ieeeValue_fields (Nat.mod_lt _ (Nat.two_pow_pos _)) (by omega) (by omega), hpow, zpow_neg,
    zpow_natCast]
  congr 1
  field_simp
  rw [← hnorm, mul_comm]

/-- The converter's subtraction (R94 to R96): from `1 + m / 2^F`, `m` the low bits of `x`, when the exact difference is `n / 2^F`;
both sides of `hd` count last places of the subtrahend. -/
theorem floatSub_injected {w c r : Nat} (x : BitVec w) (hw : (floatBias f + 1) * 2 ^ f.fracBits ≤ 2 ^ w)
    (hr : r < 2 ^ f.fracBits) (h0 : c ≠ 0) (hc : c ≤ floatBias f)
    (hd : (2 ^ f.fracBits + x.toNat % 2 ^ f.fracBits) * 2 ^ (floatBias f - c)
      = n * 2 ^ (floatBias f - c) + (2 ^ f.fracBits + r)) :
    floatSub f (BitVec.ofNat w (floatBias f * 2 ^ f.fracBits) ||| (x &&& BitVec.ofNat w (2 ^ f.fracBits - 1))).toNat
      (c * 2 ^ f.fracBits + r) = fractionPattern f n := by
  have hm : x.toNat % 2 ^ f.fracBits < 2 ^ f.fracBits := Nat.mod_lt _ (Nat.two_pow_pos _)
  rw [toNat_or_lowBits hw, floatSub_fields (by rw [two_pow_expBits_eq hf]; omega) hm h0 hc hr, hd, Nat.cast_add,
    add_sub_cancel_right, floatOfScaled_natCast, floatOfMagnitude_fraction hf hn (by omega)]

end Exact

/-! ## The three conversions (R94 to R96) -/

/-- Subtracting 1 (R95, R96): the difference is the low bits of `x`. -/
theorem floatSub_injected_one {f : FloatFormat} {w : Nat} (x : BitVec w) (hf : f.fracBits + 1 < floatBias f)
    (hw : (floatBias f + 1) * 2 ^ f.fracBits ≤ 2 ^ w) :
    floatSub f (BitVec.ofNat w (floatBias f * 2 ^ f.fracBits) ||| (x &&& BitVec.ofNat w (2 ^ f.fracBits - 1))).toNat
      (floatBias f * 2 ^ f.fracBits) = fractionPattern f (x.toNat % 2 ^ f.fracBits) :=
  floatSub_injected (r := 0) hf (Nat.mod_lt _ (Nat.two_pow_pos _)).le x hw (Nat.two_pow_pos _) (by omega) le_rfl
    (by rw [Nat.sub_self]; omega)

/-- R94: the last place of `0x3F7FFFFE` is half as large as that of the minuend, and the difference is `2 (m + 1)` of it. -/
theorem toF32_0_eq (x : Word32) : toF32_0 x = BitVec.ofNat 32 (fractionPattern binary32 (x.toNat % 2 ^ 23 + 1)) :=
  congrArg (BitVec.ofNat 32) <|
    floatSub_injected (f := binary32) (c := 126) (r := 0x7FFFFE) (by decide) (Nat.mod_lt _ (by decide)) x (by decide) (by decide)
      (by decide) (by decide)
      (show (2 ^ 23 + x.toNat % 2 ^ 23) * 2 = (x.toNat % 2 ^ 23 + 1) * 2 + (2 ^ 23 + 0x7FFFFE) by omega)

theorem toF32_1_eq (x : Word32) : toF32_1 x = BitVec.ofNat 32 (fractionPattern binary32 (x.toNat % 2 ^ 23)) :=
  congrArg (BitVec.ofNat 32) (floatSub_injected_one (f := binary32) x (by decide) (by decide))

theorem toF64_eq (x : Word64) : toF64 x = BitVec.ofNat 64 (fractionPattern binary64 (x.toNat % 2 ^ 52)) :=
  congrArg (BitVec.ofNat 64) (floatSub_injected_one (f := binary64) x (by decide) (by decide))

/-! ## The patterns without floats -/

/-- Settles O44: the formula is the pattern of `n / 2^23`, its fields put together by an or. -/
theorem toF32_0PatternWithoutFloats : Obligations.ToF32_0PatternWithoutFloats := by
  intro x n p
  rw [toF32_0_eq, fractionPattern_eq_or (Nat.succ_ne_zero _)]
  rfl

/-- Settles O45: the formula is the pattern of `m / 2^23`, zero its own case. -/
theorem toF32_1PatternWithoutFloats : Obligations.ToF32_1PatternWithoutFloats := by
  intro x m p
  rw [toF32_1_eq, ofNat_fractionPattern]
  rfl

/-- Settles O46: the formula is the pattern of `m / 2^52`, zero its own case. -/
theorem toF64PatternWithoutFloats : Obligations.ToF64PatternWithoutFloats := by
  intro x m p
  rw [toF64_eq, ofNat_fractionPattern]
  rfl

/-! ## Values and high bits (R97, R109) -/

/-- The pattern fits a word with room for the format's exponents up to the bias, so its value is that of the word. -/
theorem ieeeValue_ofNat_fractionPattern {f : FloatFormat} {n w : Nat} (hf : f.fracBits + 1 < floatBias f)
    (hn : n ≤ 2 ^ f.fracBits) (hw : (floatBias f + 1) * 2 ^ f.fracBits ≤ 2 ^ w) :
    ieeeValue f (BitVec.ofNat w (fractionPattern f n)).toNat = some ((n : ℚ) / 2 ^ f.fracBits) := by
  rw [BitVec.toNat_ofNat, Nat.mod_eq_of_lt ((fractionPattern_lt hf hn).trans_le hw), ieeeValue_fractionPattern hf hn]

theorem lowBits_div_mem (a k : Nat) : 0 ≤ ((a % 2 ^ k : ℕ) : ℚ) / 2 ^ k ∧ ((a % 2 ^ k : ℕ) : ℚ) / 2 ^ k < 1 := by
  have hlt : ((a % 2 ^ k : ℕ) : ℚ) < 2 ^ k := by exact_mod_cast Nat.mod_lt a (Nat.two_pow_pos k)
  exact ⟨by positivity, (div_lt_one (by positivity)).mpr hlt⟩

/-- Settles O47: each conversion gives the pattern of its fraction, and `m < 2^F`. -/
theorem convertedValuesAreExactAndInRange : Obligations.ConvertedValuesAreExactAndInRange := by
  refine ⟨fun x => ?_, fun x => ?_, fun x => ?_⟩
  · have hm : x.toNat % 2 ^ 23 < 2 ^ 23 := Nat.mod_lt _ (by decide)
    have hle : ((x.toNat % 2 ^ 23 + 1 : ℕ) : ℚ) ≤ 2 ^ 23 := by exact_mod_cast hm
    rw [toF32_0_eq]
    exact ⟨_, ieeeValue_ofNat_fractionPattern (by decide) hm (by decide), by rw [Nat.cast_succ]; rfl, by positivity,
      (div_le_one (by positivity)).mpr hle⟩
  · rw [toF32_1_eq]
    exact ⟨_, ieeeValue_ofNat_fractionPattern (by decide) (Nat.mod_lt _ (by decide)).le (by decide), rfl, lowBits_div_mem _ 23⟩
  · rw [toF64_eq]
    exact ⟨_, ieeeValue_ofNat_fractionPattern (by decide) (Nat.mod_lt _ (by decide)).le (by decide), rfl, lowBits_div_mem _ 52⟩

theorem toNat_mod_eq_of_lowBits_eq {w k : Nat} {x y : BitVec w} (h : x.extractLsb' 0 k = y.extractLsb' 0 k) :
    x.toNat % 2 ^ k = y.toNat % 2 ^ k := by
  simpa [BitVec.extractLsb'_toNat] using congrArg BitVec.toNat h

/-- Settles O48: each conversion is a function of the low bits read as a number. -/
theorem converterIgnoresHighBits : Obligations.ConverterIgnoresHighBits := by
  refine ⟨fun x y h => ?_, fun x y h => ?_⟩
  · have hlow := toNat_mod_eq_of_lowBits_eq h
    exact ⟨by rw [toF32_0_eq, toF32_0_eq, hlow], by rw [toF32_1_eq, toF32_1_eq, hlow]⟩
  · rw [toF64_eq, toF64_eq, toNat_mod_eq_of_lowBits_eq h]

/-! ## The float commands (R99 to R108) -/

/-- A float command that writes what RAND writes and answers the converted raw output. -/
theorem convertsStepOf_of_answer {rand float : Instr} {conv : Word64 → Word64}
    (h : ∀ s, ∃ (u : State) (raw : Word64), exec rand s = .next (u.answer .ok raw) ∧ u.responses = s.responses ∧
      exec float s = .next (u.answer .ok (conv raw))) : ConvertsStepOf rand float conv := by
  intro s
  obtain ⟨u, raw, hrand, hresp, hfloat⟩ := h s
  refine ⟨_, raw, hrand, by simp [hresp], ?_⟩
  rw [hfloat, ← hresp]
  rfl

theorem setWidth_zext64 (v : Word32) : (zext64 v).setWidth 32 = v :=
  BitVec.setWidth_setWidth_of_le v (by decide)

/-- The same on a 32-bit engine, whose raw output stands in RESULT zero-extended (30_encoding.md R58). -/
theorem convertsStepOf_of_answer_zext64 {rand float : Instr} {conv : Word32 → Word32}
    (h : ∀ s, ∃ (u : State) (raw : Word32), exec rand s = .next (u.answer .ok (zext64 raw)) ∧ u.responses = s.responses ∧
      exec float s = .next (u.answer .ok (zext64 (conv raw)))) :
    ConvertsStepOf rand float fun raw => (conv (raw.setWidth 32)).setWidth 64 := by
  refine convertsStepOf_of_answer fun s => ?_
  obtain ⟨u, raw, hrand, hresp, hfloat⟩ := h s
  exact ⟨u, zext64 raw, hrand, hresp, by rw [setWidth_zext64]; exact hfloat⟩

/-- Settles O41: on each engine FRAND writes what RAND writes and answers `toF32_0` of its output. -/
theorem frandConvertsTheRandStep : Obligations.FrandConvertsTheRandStep :=
  ⟨convertsStepOf_of_answer_zext64 fun s => ⟨_, _, exec_randX128SS s, rfl, rfl⟩,
    convertsStepOf_of_answer_zext64 fun s => ⟨_, _, exec_randX128P s, rfl, rfl⟩,
    convertsStepOf_of_answer_zext64 fun s => ⟨_, _, exec_randWell s, rfl, rfl⟩⟩

/-- Settles O42: on each engine FRAND2 writes what RAND writes and answers `toF32_1` of its output. -/
theorem frand2ConvertsTheRandStep : Obligations.Frand2ConvertsTheRandStep :=
  ⟨convertsStepOf_of_answer_zext64 fun s => ⟨_, _, exec_randX128SS s, rfl, rfl⟩,
    convertsStepOf_of_answer_zext64 fun s => ⟨_, _, exec_randX128P s, rfl, rfl⟩,
    convertsStepOf_of_answer_zext64 fun s => ⟨_, _, exec_randWell s, rfl, rfl⟩⟩

/-- Settles O43: on each engine DRAND2 writes what RAND writes and answers `toF64` of its output; nothing is widened. -/
theorem drand2ConvertsTheRandStep : Obligations.Drand2ConvertsTheRandStep :=
  ⟨convertsStepOf_of_answer fun s => ⟨_, _, exec_randXR128P s, rfl, rfl⟩,
    convertsStepOf_of_answer fun s => ⟨_, _, exec_randXR256P s, rfl, rfl⟩,
    convertsStepOf_of_answer fun s => ⟨_, _, exec_randXR512P s, rfl, rfl⟩⟩

end Sys2Proof.Machine

/-! PROOFS. Refusals (60_exceptions.md R122 to R127). A request is refused by the decoder, never with OK, or by its
command, exactly when that is not well formed. A refusal is an answer like any other, so the three cases of a step (`step_cases`)
carry liveness and the invariant on responses. -/

namespace Sys2Proof

/-- The decoder refuses with a cause (60_exceptions.md R123). -/
theorem ne_ok_of_decode_refuse {r : Request} {st : Status} (h : decode r = .refuse st) : st ≠ .ok := by
  rintro rfl
  obtain hr | ⟨hr, ho⟩ | ⟨hr, h1, h6, he⟩ | ⟨op, e, hc⟩ := cmd_cases r.cmd
  · simp [decode_reserved hr] at h
  · simp [decode_opcode hr ho] at h
  · simp [decode_engine hr h1 h6 he] at h
  cases hi : instrOf op e r.operand with
  | none => simp [decode_unsupported hc hi] at h
  | some i =>
    rw [decode_of_instrOf hc hi] at h
    split at h <;> cases h

/-- The terms that are no command of the block: a 32-bit SRAND with a wide operand (30_encoding.md R46). -/
theorem wellFormed_eq_false {i : Instr} :
    i.wellFormed = false ↔
      ∃ v : Word64, 2 ^ 32 ≤ v.toNat ∧ (i = .srandX128SS v ∨ i = .srandX128P v ∨ i = .srandWell v) := by
  cases i with
  | srandX128SS | srandX128P | srandWell => simp [Instr.wellFormed, seedFits32]
  | _ => simp [Instr.wellFormed]

end Sys2Proof

namespace Sys2Proof.Machine

/-! ## Refused requests -/

/-- A refused request leaves the port with its answer, and nothing else changes (60_exceptions.md R126). -/
theorem step_refused {s : State} {r : Request} {rest : List HostAction} {st : Status}
    (hp : s.pending = .request r :: rest) (hd : decode r = .refuse st) :
    step s = .next { s with pending := rest, responses := s.responses ++ [{ status := statusCode st, result := 0 }] } := by
  rw [step_request hp, serve_refuse hd, State.answer, hp, List.tail_cons]

/-- Settles O12: `step_refused`, and the cause of a refusal is not OK. -/
theorem refusedRequestChangesNoState : Obligations.RefusedRequestChangesNoState :=
  fun _ _ _ _ hp hd => ⟨mt statusCode_eq_zero.mp (ne_ok_of_decode_refuse hd), step_refused hp hd⟩

theorem step_present_refused {r : Request} {st : Status} (hd : decode r = .refuse st) (s : State) :
    step (s.present r) = .next { s with responses := s.responses ++ [{ status := statusCode st, result := 0 }] } :=
  step_refused (s := s.present r) rfl hd

/-- Settles O13: each example fails the check of 30_encoding.md R50 that its code names, and passes those before it. -/
theorem refusalPriorityExamples : Obligations.RefusalPriorityExamples := fun s _ =>
  ⟨step_present_refused (decode_reserved (by simp)) s,
    step_present_refused (decode_opcode (by simp) (by simp)) s,
    step_present_refused (decode_engine (by simp) (by simp) (by simp) (by simp)) s,
    step_present_refused (decode_unsupported (op := .drand2) (e := .x128ss) rfl rfl) s,
    step_present_refused (decode_srandOf_wide (e := .x128ss) (v := 0x100000000) rfl (by decide)) s⟩

/-! ## Decoded commands -/

/-- A well-formed command is answered OK (60_exceptions.md R124). -/
theorem exec_of_wellFormed {i : Instr} (hw : i.wellFormed = true) (s : State) :
    ∃ (u : State) (v : Word64), exec i s = .next (u.answer .ok v) ∧ u.responses = s.responses := by
  by_cases hop : i.op = .srand
  · obtain ⟨_, hexec⟩ := exec_srand hop hw
    exact ⟨_, 0, hexec s, by simp⟩
  · cases i with
    | srandX128SS | srandX128P | srandXR128P | srandXR256P | srandXR512P | srandWell => exact absurd rfl hop
    | _ => exact ⟨_, _, rfl, rfl⟩

/-- Settles O53: the refused commands are the ill-formed ones. -/
theorem onlyWideSeedsAreRefusedAfterDecode : Obligations.OnlyWideSeedsAreRefusedAfterDecode := by
  refine fun i s => ⟨?_, fun hnot => ?_⟩
  · rintro ⟨v, hv, rfl | rfl | rfl⟩
    · exact exec_srandOf_wide (e := .x128ss) rfl hv s
    · exact exec_srandOf_wide (e := .x128p) rfl hv s
    · exact exec_srandOf_wide (e := .well) rfl hv s
  · have hw : i.wellFormed = true := Bool.eq_true_of_not_eq_false (mt wellFormed_eq_false.mp hnot)
    obtain ⟨u, v, hu, hresp⟩ := exec_of_wellFormed hw s
    exact ⟨_, v, hu, by simp [hresp]⟩

/-! ## What a step can do -/

/-- A step idles, takes the reset event, or serves the request at the head of the port. -/
theorem step_cases (s : State) :
    (s.pending = [] ∧ step s = .next s) ∨
    (∃ rest, s.pending = .reset :: rest ∧ step s = .next s.resetEvent) ∨
    ∃ r rest, s.pending = .request r :: rest ∧ step s = serve r s := by
  cases hs : s.pending with
  | nil => exact .inl ⟨rfl, step_idle hs⟩
  | cons a rest =>
    cases a with
    | reset => exact .inr (.inl ⟨rest, rfl, step_reset hs⟩)
    | request r => exact .inr (.inr ⟨r, rest, rfl, step_request hs⟩)

/-- Settles O18: a served request is answered in a next state. -/
theorem everyStepGoesOn : Obligations.EveryStepGoesOn := by
  intro s
  obtain ⟨-, h⟩ | ⟨-, -, h⟩ | ⟨r, -, -, h⟩ := step_cases s
  · exact ⟨_, h⟩
  · exact ⟨_, h⟩
  · obtain ⟨_, _, _, hserve, -⟩ := serve_answers r s
    exact ⟨_, h.trans hserve⟩

/-! ## The invariant on responses -/

/-- A cause's code is one of R123's, so what is left to ask of a response is RESULT 0 on a refusal. -/
theorem Response.legal_of_statusCode {st : Status} {v : Word64} (h : st = .ok ∨ v = 0) :
    Response.Legal { status := statusCode st, result := v } :=
  ⟨statusCode_toNat_le st, fun hne => h.resolve_left (mt statusCode_eq_zero.mpr hne)⟩

theorem responsesLegal_answer {s : State} {st : Status} {v : Word64} :
    ResponsesLegal (s.answer st v) ↔ ResponsesLegal s ∧ Response.Legal { status := statusCode st, result := v } := by
  simp only [ResponsesLegal, State.answer_responses, List.forall_mem_append, List.forall_mem_singleton]

/-- A request gets a legal response, whether it is run, refused by its command, or refused by the decoder. -/
theorem serve_answers_legal (r : Request) (s : State) :
    ∃ (st : Status) (v : Word64) (u : State), serve r s = .next (u.answer st v) ∧ u.responses = s.responses ∧
      Response.Legal { status := statusCode st, result := v } := by
  cases hd : decode r with
  | run i =>
    obtain ⟨st, v, u, hu, -, hresp, hst⟩ := exec_answers i s
    exact ⟨st, v, u, (serve_run hd s).trans hu, hresp, Response.legal_of_statusCode (hst.imp_right And.right)⟩
  | refuse st => exact ⟨st, 0, s, serve_refuse hd s, rfl, Response.legal_of_statusCode (.inr rfl)⟩

/-- Settles O20: only a served request adds a response, and it is a legal one. -/
theorem stepKeepsResponsesLegal : Obligations.StepKeepsResponsesLegal := by
  intro s t hs h
  obtain ⟨-, hstep⟩ | ⟨-, -, hstep⟩ | ⟨r, -, -, hstep⟩ := step_cases s
  · cases hstep.symm.trans h
    exact hs
  · cases hstep.symm.trans h
    exact hs
  · obtain ⟨st, v, u, hserve, hresp, hlegal⟩ := serve_answers_legal r s
    cases (hstep.trans hserve).symm.trans h
    have hu : ResponsesLegal u := by rwa [ResponsesLegal, hresp]
    exact responsesLegal_answer.mpr ⟨hu, hlegal⟩

/-- Settles O21: the list of responses is empty at reset. -/
theorem resetResponsesLegal : Obligations.ResetResponsesLegal := List.forall_mem_nil _

end Sys2Proof.Machine

/-! PROOFS. Reset and runs (70_reset_and_hazards.md R134, R135, R138, R142, R143). A list of INITs sets to the reset contents
every engine it names, and leaves that way every engine that held them already (`execList_inits`). A step takes one action off the
port (`step_drops_head`), so a run is an induction on the actions still pending. -/

namespace Sys2Proof.Machine

/-! ## The idle block and the reset event -/

/-- Settles O17: with no head on the port the step is the idle one. -/
theorem idleBlockHoldsItsState : Obligations.IdleBlockHoldsItsState :=
  fun _ h => step_idle h

/-- Settles O14: the step is the reset event, which takes the head of the port. -/
theorem resetEventLoadsDefaults : Obligations.ResetEventLoadsDefaults := by
  intro s rest h
  rw [step_reset h, State.resetEvent, h]
  rfl

/-! ## Lists of INITs (R135) -/

/-- INITs, in any order and number, set the engines they name to the reset contents; no later one undoes that. -/
theorem execList_inits {l : List Instr} (hl : ∀ i ∈ l, i.op = .init) (s : State) :
    ∃ t, execList l s = .next t ∧
      ∀ e, (EngineEq e s .reset ∨ ∃ i ∈ l, i.engine = e) → EngineEq e t .reset := by
  induction l generalizing s with
  | nil => exact ⟨s, rfl, fun e he => he.resolve_right (by simp)⟩
  | cons i rest ih =>
    obtain ⟨hi, hrest⟩ := List.forall_mem_cons.mp hl
    obtain ⟨t, ht, hreset⟩ := ih hrest ((s.withEngine i.engine .reset).answer .ok 0)
    refine ⟨t, (execList_cons_of_next (exec_init hi s) rest).trans ht, fun e he => hreset e ?_⟩
    by_cases hie : e = i.engine
    · subst hie
      exact .inl (by simp)
    · rw [engineEq_answer_left, engineEq_withEngine_left_of_ne hie]
      simpa [Ne.symm hie] using he

/-- The six INIT commands, one per engine (40_seed_and_init.md R71 to R76). -/
def initCommands : List Instr := [.initX128SS, .initX128P, .initXR128P, .initXR256P, .initXR512P, .initWell]

theorem op_of_mem_initCommands : ∀ i ∈ initCommands, i.op = .init := by decide

theorem exists_mem_initCommands (e : Engine) : ∃ i ∈ initCommands, i.engine = e := by cases e <;> decide

/-- Settles O16: in any order the six INITs are INITs and name every engine. -/
theorem resetEqualsSixInitsInAnyOrder : Obligations.ResetEqualsSixInitsInAnyOrder := by
  intro l hperm s
  obtain ⟨t, ht, hreset⟩ := execList_inits (fun i hi => op_of_mem_initCommands i (hperm.subset hi)) s
  refine ⟨t, ht, fun e => hreset e (.inr ?_)⟩
  obtain ⟨i, hi, he⟩ := exists_mem_initCommands e
  exact ⟨i, hperm.symm.subset hi, he⟩

/-! ## Runs (R142, R143) -/

/-- Every step goes on and takes the oldest action, if there is one, off the port. -/
theorem step_drops_head (s : State) : ∃ t, step s = .next t ∧ t.pending = s.pending.tail := by
  obtain ⟨hp, h⟩ | ⟨-, -, h⟩ | ⟨r, -, -, h⟩ := step_cases s
  · exact ⟨s, h, by rw [hp, List.tail_nil]⟩
  · exact ⟨_, h, s.resetEvent_pending⟩
  · obtain ⟨_, _, _, hserve, hp, -⟩ := serve_answers r s
    exact ⟨_, h.trans hserve, by rw [State.answer_pending, hp]⟩

theorem run_succ_of_step {M : Host.Core} {s t : M.State} (h : M.step s = .next t) (k : Nat) :
    M.run (k + 1) s = M.run k t := by
  simp only [Host.Core.run, h]

/-- Settles O22, by induction on the pending actions: each step takes one off the port and keeps the balance of
`eachRequestGetsOneResponse`. -/
theorem runAnswersEveryPendingRequest : Obligations.RunAnswersEveryPendingRequest := by
  intro s
  induction hs : s.pending generalizing s with
  | nil => exact ⟨s, rfl, hs, List.prefix_rfl, rfl⟩
  | cons a rest ih =>
    obtain ⟨u, hstep, hu⟩ := step_drops_head s
    rw [hs, List.tail_cons] at hu
    obtain ⟨hbalance, hprefix⟩ := eachRequestGetsOneResponse s u hstep
    obtain ⟨t, hrun, hdone, hprefix', hcount⟩ := ih u hu
    refine ⟨t, (run_succ_of_step (M := core) hstep _).trans hrun, hdone, hprefix.trans hprefix', ?_⟩
    rw [hs, hu] at hbalance
    exact hcount.trans hbalance

end Sys2Proof.Machine
